-- ==== Sys2Proof/Word.lean ====
section
/-! DEFINITION. The word types of the block: 64-bit registers (REG_WIDTH, `00_scope.md` R6) and bytes. -/

namespace Sys2Proof

/-- A register: ARG0..ARG3, RES0..RES3 and every internal register are 64 bits wide (R6, R105). -/
abbrev Word := BitVec 64

/-- A byte of IN, OUT, CT or a writer region (R200). -/
abbrev Byte := BitVec 8

/-- Stores a number into a 64-bit register. A rule stores a value only after a range check (R8), so no
reachable step relies on the wrap-around (log 21). -/
def w64 (n : Nat) : Word := BitVec.ofNat 64 n

@[simp] theorem w64_toNat (n : Nat) : (w64 n).toNat = n % 18446744073709551616 := by
  simp [w64, BitVec.toNat_ofNat]

theorem w64_toNat_of_lt {n : Nat} (h : n < 18446744073709551616) : (w64 n).toNat = n := by
  rw [w64_toNat, Nat.mod_eq_of_lt h]

@[simp] theorem w64_of_toNat (v : Word) : w64 v.toNat = v := by
  simp [w64]

end Sys2Proof
end

