-- ==== Sys2Proof/Syntax.lean ====
section
/-! DEFINITION. The instructions of `spec/opcode_table.json`, one constructor a row: the 30 command codes a host
writes into CMD (`30_encoding.md` R300) and the 256 opcode bytes of the instruction stream (R320, R321).
No row has an operand field: a command's operands are the ARG registers (R300, R302), an opcode's sizes follow
in the stream (R323) and are read when the opcode runs (`42_reader.md` R604). -/

namespace Sys2Proof

/-- One constructor per row of the opcode table. The names of the `op…` constructors are the names the table gives the
rows under the default code table; the opcode selects whatever row CT holds (R321; log 2). -/
inductive Instr where
  /-- NOP, command code 0x00 (R900). -/
  | nop
  /-- VENC32, command code 0x01 (R410). -/
  | venc32
  /-- VENC64, command code 0x02 (R411). -/
  | venc64
  /-- VDEC32, command code 0x03 (R412). -/
  | vdec32
  /-- VDEC64, command code 0x04 (R413). -/
  | vdec64
  /-- CT_LOAD_DEFAULT, command code 0x10 (R510). -/
  | ctLoadDefault
  /-- CT_SET_CACHE, command code 0x11 (R511). -/
  | ctSetCache
  /-- CT_WRITE, command code 0x12 (R512). -/
  | ctWrite
  /-- CT_READ, command code 0x13 (R513). -/
  | ctRead
  /-- CT_COMMIT, command code 0x14 (R514). -/
  | ctCommit
  /-- MAP_FIRST, command code 0x18 (R520). -/
  | mapFirst
  /-- MAP_SECOND, command code 0x19 (R521). -/
  | mapSecond
  /-- RD_START, command code 0x20 (R600). -/
  | rdStart
  /-- RD_EXTEND, command code 0x21 (R601). -/
  | rdExtend
  /-- RD_SEEK, command code 0x22 (R602). -/
  | rdSeek
  /-- RD_GET, command code 0x23 (R604). -/
  | rdGet
  /-- RD_UNGET, command code 0x24 (R605). -/
  | rdUnget
  /-- WR_ADD, command code 0x30 (R703). -/
  | wrAdd
  /-- WR_RUN, command code 0x31 (R705). -/
  | wrRun
  /-- WR_COPY, command code 0x32 (R704). -/
  | wrCopy
  /-- WR_OUTPUT, command code 0x33 (R706). -/
  | wrOutput
  /-- WR_DISCARD, command code 0x34 (R707). -/
  | wrDiscard
  /-- FH_WRITE, command code 0x35 (R710). -/
  | fhWrite
  /-- FH_PARSE, command code 0x40 (R801). -/
  | fhParse
  /-- WH_PARSE, command code 0x41 (R810). -/
  | whParse
  /-- WIN_END, command code 0x42 (R820). -/
  | winEnd
  /-- REG_READ, command code 0x70 (R901). -/
  | regRead
  /-- REG_WRITE, command code 0x71 (R902). -/
  | regWrite
  /-- IN_APPEND, command code 0x72 (R903). -/
  | inAppend
  /-- RESET, command code 0x7F (R904). -/
  | reset
  | opRun
  | opAdd
  | opAdd1
  | opAdd2
  | opAdd3
  | opAdd4
  | opAdd5
  | opAdd6
  | opAdd7
  | opAdd8
  | opAdd9
  | opAdd10
  | opAdd11
  | opAdd12
  | opAdd13
  | opAdd14
  | opAdd15
  | opAdd16
  | opAdd17
  | opCopyM0
  | opCopy4M0
  | opCopy5M0
  | opCopy6M0
  | opCopy7M0
  | opCopy8M0
  | opCopy9M0
  | opCopy10M0
  | opCopy11M0
  | opCopy12M0
  | opCopy13M0
  | opCopy14M0
  | opCopy15M0
  | opCopy16M0
  | opCopy17M0
  | opCopy18M0
  | opCopyM1
  | opCopy4M1
  | opCopy5M1
  | opCopy6M1
  | opCopy7M1
  | opCopy8M1
  | opCopy9M1
  | opCopy10M1
  | opCopy11M1
  | opCopy12M1
  | opCopy13M1
  | opCopy14M1
  | opCopy15M1
  | opCopy16M1
  | opCopy17M1
  | opCopy18M1
  | opCopyM2
  | opCopy4M2
  | opCopy5M2
  | opCopy6M2
  | opCopy7M2
  | opCopy8M2
  | opCopy9M2
  | opCopy10M2
  | opCopy11M2
  | opCopy12M2
  | opCopy13M2
  | opCopy14M2
  | opCopy15M2
  | opCopy16M2
  | opCopy17M2
  | opCopy18M2
  | opCopyM3
  | opCopy4M3
  | opCopy5M3
  | opCopy6M3
  | opCopy7M3
  | opCopy8M3
  | opCopy9M3
  | opCopy10M3
  | opCopy11M3
  | opCopy12M3
  | opCopy13M3
  | opCopy14M3
  | opCopy15M3
  | opCopy16M3
  | opCopy17M3
  | opCopy18M3
  | opCopyM4
  | opCopy4M4
  | opCopy5M4
  | opCopy6M4
  | opCopy7M4
  | opCopy8M4
  | opCopy9M4
  | opCopy10M4
  | opCopy11M4
  | opCopy12M4
  | opCopy13M4
  | opCopy14M4
  | opCopy15M4
  | opCopy16M4
  | opCopy17M4
  | opCopy18M4
  | opCopyM5
  | opCopy4M5
  | opCopy5M5
  | opCopy6M5
  | opCopy7M5
  | opCopy8M5
  | opCopy9M5
  | opCopy10M5
  | opCopy11M5
  | opCopy12M5
  | opCopy13M5
  | opCopy14M5
  | opCopy15M5
  | opCopy16M5
  | opCopy17M5
  | opCopy18M5
  | opCopyM6
  | opCopy4M6
  | opCopy5M6
  | opCopy6M6
  | opCopy7M6
  | opCopy8M6
  | opCopy9M6
  | opCopy10M6
  | opCopy11M6
  | opCopy12M6
  | opCopy13M6
  | opCopy14M6
  | opCopy15M6
  | opCopy16M6
  | opCopy17M6
  | opCopy18M6
  | opCopyM7
  | opCopy4M7
  | opCopy5M7
  | opCopy6M7
  | opCopy7M7
  | opCopy8M7
  | opCopy9M7
  | opCopy10M7
  | opCopy11M7
  | opCopy12M7
  | opCopy13M7
  | opCopy14M7
  | opCopy15M7
  | opCopy16M7
  | opCopy17M7
  | opCopy18M7
  | opCopyM8
  | opCopy4M8
  | opCopy5M8
  | opCopy6M8
  | opCopy7M8
  | opCopy8M8
  | opCopy9M8
  | opCopy10M8
  | opCopy11M8
  | opCopy12M8
  | opCopy13M8
  | opCopy14M8
  | opCopy15M8
  | opCopy16M8
  | opCopy17M8
  | opCopy18M8
  | opAdd1Copy4M0
  | opAdd1Copy5M0
  | opAdd1Copy6M0
  | opAdd2Copy4M0
  | opAdd2Copy5M0
  | opAdd2Copy6M0
  | opAdd3Copy4M0
  | opAdd3Copy5M0
  | opAdd3Copy6M0
  | opAdd4Copy4M0
  | opAdd4Copy5M0
  | opAdd4Copy6M0
  | opAdd1Copy4M1
  | opAdd1Copy5M1
  | opAdd1Copy6M1
  | opAdd2Copy4M1
  | opAdd2Copy5M1
  | opAdd2Copy6M1
  | opAdd3Copy4M1
  | opAdd3Copy5M1
  | opAdd3Copy6M1
  | opAdd4Copy4M1
  | opAdd4Copy5M1
  | opAdd4Copy6M1
  | opAdd1Copy4M2
  | opAdd1Copy5M2
  | opAdd1Copy6M2
  | opAdd2Copy4M2
  | opAdd2Copy5M2
  | opAdd2Copy6M2
  | opAdd3Copy4M2
  | opAdd3Copy5M2
  | opAdd3Copy6M2
  | opAdd4Copy4M2
  | opAdd4Copy5M2
  | opAdd4Copy6M2
  | opAdd1Copy4M3
  | opAdd1Copy5M3
  | opAdd1Copy6M3
  | opAdd2Copy4M3
  | opAdd2Copy5M3
  | opAdd2Copy6M3
  | opAdd3Copy4M3
  | opAdd3Copy5M3
  | opAdd3Copy6M3
  | opAdd4Copy4M3
  | opAdd4Copy5M3
  | opAdd4Copy6M3
  | opAdd1Copy4M4
  | opAdd1Copy5M4
  | opAdd1Copy6M4
  | opAdd2Copy4M4
  | opAdd2Copy5M4
  | opAdd2Copy6M4
  | opAdd3Copy4M4
  | opAdd3Copy5M4
  | opAdd3Copy6M4
  | opAdd4Copy4M4
  | opAdd4Copy5M4
  | opAdd4Copy6M4
  | opAdd1Copy4M5
  | opAdd1Copy5M5
  | opAdd1Copy6M5
  | opAdd2Copy4M5
  | opAdd2Copy5M5
  | opAdd2Copy6M5
  | opAdd3Copy4M5
  | opAdd3Copy5M5
  | opAdd3Copy6M5
  | opAdd4Copy4M5
  | opAdd4Copy5M5
  | opAdd4Copy6M5
  | opAdd1Copy4M6
  | opAdd2Copy4M6
  | opAdd3Copy4M6
  | opAdd4Copy4M6
  | opAdd1Copy4M7
  | opAdd2Copy4M7
  | opAdd3Copy4M7
  | opAdd4Copy4M7
  | opAdd1Copy4M8
  | opAdd2Copy4M8
  | opAdd3Copy4M8
  | opAdd4Copy4M8
  | opCopy4M0Add1
  | opCopy4M1Add1
  | opCopy4M2Add1
  | opCopy4M3Add1
  | opCopy4M4Add1
  | opCopy4M5Add1
  | opCopy4M6Add1
  | opCopy4M7Add1
  | opCopy4M8Add1
deriving DecidableEq, Repr

end Sys2Proof
end

