-- ==== Sys2Proof/Decode.lean ====
section
/-! DEFINITION. The decoder and the encoder. A byte is read in one of two places: written into CMD it is a command code
(`30_encoding.md` R300, R301); read by the reader from the instruction stream it is an opcode byte (R320, R321). The two
number spaces overlap, so a decoder is told where the byte stood (log 1). -/

namespace Sys2Proof

/-- Where an instruction byte stands: in CMD, or in the instructions+sizes section. -/
inductive Space where
  | command
  | stream
deriving DecidableEq, Repr

/-- Why bytes are no instruction. -/
inductive Reject where
  /-- There is no byte to decode. -/
  | noBytes
  /-- The code is not in R300's table (R301). -/
  | illegalCommand (code : Byte)
  /-- No row (never answered: every opcode byte selects a row, R321). -/
  | illegalOpcode (op : Byte)
deriving DecidableEq, Repr

/-- R300's table of command codes. -/
def commandTable : List (Byte × Instr) :=
  [(0x00#8, .nop), (0x01#8, .venc32), (0x02#8, .venc64), (0x03#8, .vdec32),
   (0x04#8, .vdec64), (0x10#8, .ctLoadDefault), (0x11#8, .ctSetCache), (0x12#8, .ctWrite),
   (0x13#8, .ctRead), (0x14#8, .ctCommit), (0x18#8, .mapFirst), (0x19#8, .mapSecond),
   (0x20#8, .rdStart), (0x21#8, .rdExtend), (0x22#8, .rdSeek), (0x23#8, .rdGet),
   (0x24#8, .rdUnget), (0x30#8, .wrAdd), (0x31#8, .wrRun), (0x32#8, .wrCopy),
   (0x33#8, .wrOutput), (0x34#8, .wrDiscard), (0x35#8, .fhWrite), (0x40#8, .fhParse),
   (0x41#8, .whParse), (0x42#8, .winEnd), (0x70#8, .regRead), (0x71#8, .regWrite),
   (0x72#8, .inAppend), (0x7F#8, .reset)]

/-- The command a code names; `none` for the codes of R301. -/
def decodeCommand (code : Byte) : Option Instr := (commandTable.find? (fun e => e.1 == code)).map Prod.snd

/-- The rows of opcodes 0..31, in order (R320). -/
def opcodeRows0 : List Instr :=
  [.opRun, .opAdd, .opAdd1, .opAdd2,
   .opAdd3, .opAdd4, .opAdd5, .opAdd6,
   .opAdd7, .opAdd8, .opAdd9, .opAdd10,
   .opAdd11, .opAdd12, .opAdd13, .opAdd14,
   .opAdd15, .opAdd16, .opAdd17, .opCopyM0,
   .opCopy4M0, .opCopy5M0, .opCopy6M0, .opCopy7M0,
   .opCopy8M0, .opCopy9M0, .opCopy10M0, .opCopy11M0,
   .opCopy12M0, .opCopy13M0, .opCopy14M0, .opCopy15M0]

/-- The rows of opcodes 32..63, in order (R320). -/
def opcodeRows1 : List Instr :=
  [.opCopy16M0, .opCopy17M0, .opCopy18M0, .opCopyM1,
   .opCopy4M1, .opCopy5M1, .opCopy6M1, .opCopy7M1,
   .opCopy8M1, .opCopy9M1, .opCopy10M1, .opCopy11M1,
   .opCopy12M1, .opCopy13M1, .opCopy14M1, .opCopy15M1,
   .opCopy16M1, .opCopy17M1, .opCopy18M1, .opCopyM2,
   .opCopy4M2, .opCopy5M2, .opCopy6M2, .opCopy7M2,
   .opCopy8M2, .opCopy9M2, .opCopy10M2, .opCopy11M2,
   .opCopy12M2, .opCopy13M2, .opCopy14M2, .opCopy15M2]

/-- The rows of opcodes 64..95, in order (R320). -/
def opcodeRows2 : List Instr :=
  [.opCopy16M2, .opCopy17M2, .opCopy18M2, .opCopyM3,
   .opCopy4M3, .opCopy5M3, .opCopy6M3, .opCopy7M3,
   .opCopy8M3, .opCopy9M3, .opCopy10M3, .opCopy11M3,
   .opCopy12M3, .opCopy13M3, .opCopy14M3, .opCopy15M3,
   .opCopy16M3, .opCopy17M3, .opCopy18M3, .opCopyM4,
   .opCopy4M4, .opCopy5M4, .opCopy6M4, .opCopy7M4,
   .opCopy8M4, .opCopy9M4, .opCopy10M4, .opCopy11M4,
   .opCopy12M4, .opCopy13M4, .opCopy14M4, .opCopy15M4]

/-- The rows of opcodes 96..127, in order (R320). -/
def opcodeRows3 : List Instr :=
  [.opCopy16M4, .opCopy17M4, .opCopy18M4, .opCopyM5,
   .opCopy4M5, .opCopy5M5, .opCopy6M5, .opCopy7M5,
   .opCopy8M5, .opCopy9M5, .opCopy10M5, .opCopy11M5,
   .opCopy12M5, .opCopy13M5, .opCopy14M5, .opCopy15M5,
   .opCopy16M5, .opCopy17M5, .opCopy18M5, .opCopyM6,
   .opCopy4M6, .opCopy5M6, .opCopy6M6, .opCopy7M6,
   .opCopy8M6, .opCopy9M6, .opCopy10M6, .opCopy11M6,
   .opCopy12M6, .opCopy13M6, .opCopy14M6, .opCopy15M6]

/-- The rows of opcodes 128..159, in order (R320). -/
def opcodeRows4 : List Instr :=
  [.opCopy16M6, .opCopy17M6, .opCopy18M6, .opCopyM7,
   .opCopy4M7, .opCopy5M7, .opCopy6M7, .opCopy7M7,
   .opCopy8M7, .opCopy9M7, .opCopy10M7, .opCopy11M7,
   .opCopy12M7, .opCopy13M7, .opCopy14M7, .opCopy15M7,
   .opCopy16M7, .opCopy17M7, .opCopy18M7, .opCopyM8,
   .opCopy4M8, .opCopy5M8, .opCopy6M8, .opCopy7M8,
   .opCopy8M8, .opCopy9M8, .opCopy10M8, .opCopy11M8,
   .opCopy12M8, .opCopy13M8, .opCopy14M8, .opCopy15M8]

/-- The rows of opcodes 160..191, in order (R320). -/
def opcodeRows5 : List Instr :=
  [.opCopy16M8, .opCopy17M8, .opCopy18M8, .opAdd1Copy4M0,
   .opAdd1Copy5M0, .opAdd1Copy6M0, .opAdd2Copy4M0, .opAdd2Copy5M0,
   .opAdd2Copy6M0, .opAdd3Copy4M0, .opAdd3Copy5M0, .opAdd3Copy6M0,
   .opAdd4Copy4M0, .opAdd4Copy5M0, .opAdd4Copy6M0, .opAdd1Copy4M1,
   .opAdd1Copy5M1, .opAdd1Copy6M1, .opAdd2Copy4M1, .opAdd2Copy5M1,
   .opAdd2Copy6M1, .opAdd3Copy4M1, .opAdd3Copy5M1, .opAdd3Copy6M1,
   .opAdd4Copy4M1, .opAdd4Copy5M1, .opAdd4Copy6M1, .opAdd1Copy4M2,
   .opAdd1Copy5M2, .opAdd1Copy6M2, .opAdd2Copy4M2, .opAdd2Copy5M2]

/-- The rows of opcodes 192..223, in order (R320). -/
def opcodeRows6 : List Instr :=
  [.opAdd2Copy6M2, .opAdd3Copy4M2, .opAdd3Copy5M2, .opAdd3Copy6M2,
   .opAdd4Copy4M2, .opAdd4Copy5M2, .opAdd4Copy6M2, .opAdd1Copy4M3,
   .opAdd1Copy5M3, .opAdd1Copy6M3, .opAdd2Copy4M3, .opAdd2Copy5M3,
   .opAdd2Copy6M3, .opAdd3Copy4M3, .opAdd3Copy5M3, .opAdd3Copy6M3,
   .opAdd4Copy4M3, .opAdd4Copy5M3, .opAdd4Copy6M3, .opAdd1Copy4M4,
   .opAdd1Copy5M4, .opAdd1Copy6M4, .opAdd2Copy4M4, .opAdd2Copy5M4,
   .opAdd2Copy6M4, .opAdd3Copy4M4, .opAdd3Copy5M4, .opAdd3Copy6M4,
   .opAdd4Copy4M4, .opAdd4Copy5M4, .opAdd4Copy6M4, .opAdd1Copy4M5]

/-- The rows of opcodes 224..255, in order (R320). -/
def opcodeRows7 : List Instr :=
  [.opAdd1Copy5M5, .opAdd1Copy6M5, .opAdd2Copy4M5, .opAdd2Copy5M5,
   .opAdd2Copy6M5, .opAdd3Copy4M5, .opAdd3Copy5M5, .opAdd3Copy6M5,
   .opAdd4Copy4M5, .opAdd4Copy5M5, .opAdd4Copy6M5, .opAdd1Copy4M6,
   .opAdd2Copy4M6, .opAdd3Copy4M6, .opAdd4Copy4M6, .opAdd1Copy4M7,
   .opAdd2Copy4M7, .opAdd3Copy4M7, .opAdd4Copy4M7, .opAdd1Copy4M8,
   .opAdd2Copy4M8, .opAdd3Copy4M8, .opAdd4Copy4M8, .opCopy4M0Add1,
   .opCopy4M1Add1, .opCopy4M2Add1, .opCopy4M3Add1, .opCopy4M4Add1,
   .opCopy4M5Add1, .opCopy4M6Add1, .opCopy4M7Add1, .opCopy4M8Add1]

/-- The row of opcode byte `op`: the block of 32 rows it lies in, and its place there. -/
def decodeOpcode (op : Byte) : Option Instr :=
  let rows :=
    match op.toNat / 32 with
    | 0 => opcodeRows0
    | 1 => opcodeRows1
    | 2 => opcodeRows2
    | 3 => opcodeRows3
    | 4 => opcodeRows4
    | 5 => opcodeRows5
    | 6 => opcodeRows6
    | _ => opcodeRows7
  rows[op.toNat % 32]?

/-- Decodes the first byte where it stands and gives back the rest of the bytes. Total; it rejects by name. -/
def decode (space : Space) (bytes : List Byte) : Except Reject (Instr × List Byte) :=
  match bytes with
  | [] => .error .noBytes
  | b :: rest =>
    match space with
    | .command =>
      match decodeCommand b with
      | some i => .ok (i, rest)
      | none => .error (.illegalCommand b)
    | .stream =>
      match decodeOpcode b with
      | some i => .ok (i, rest)
      | none => .error (.illegalOpcode b)

/-- The encoder: where the instruction's byte stands, and the byte. Written from R300's codes and R320's row numbers. -/
def encode : Instr → Space × Byte
  | .nop => (.command, 0x00)
  | .venc32 => (.command, 0x01)
  | .venc64 => (.command, 0x02)
  | .vdec32 => (.command, 0x03)
  | .vdec64 => (.command, 0x04)
  | .ctLoadDefault => (.command, 0x10)
  | .ctSetCache => (.command, 0x11)
  | .ctWrite => (.command, 0x12)
  | .ctRead => (.command, 0x13)
  | .ctCommit => (.command, 0x14)
  | .mapFirst => (.command, 0x18)
  | .mapSecond => (.command, 0x19)
  | .rdStart => (.command, 0x20)
  | .rdExtend => (.command, 0x21)
  | .rdSeek => (.command, 0x22)
  | .rdGet => (.command, 0x23)
  | .rdUnget => (.command, 0x24)
  | .wrAdd => (.command, 0x30)
  | .wrRun => (.command, 0x31)
  | .wrCopy => (.command, 0x32)
  | .wrOutput => (.command, 0x33)
  | .wrDiscard => (.command, 0x34)
  | .fhWrite => (.command, 0x35)
  | .fhParse => (.command, 0x40)
  | .whParse => (.command, 0x41)
  | .winEnd => (.command, 0x42)
  | .regRead => (.command, 0x70)
  | .regWrite => (.command, 0x71)
  | .inAppend => (.command, 0x72)
  | .reset => (.command, 0x7F)
  | .opRun => (.stream, 0)
  | .opAdd => (.stream, 1)
  | .opAdd1 => (.stream, 2)
  | .opAdd2 => (.stream, 3)
  | .opAdd3 => (.stream, 4)
  | .opAdd4 => (.stream, 5)
  | .opAdd5 => (.stream, 6)
  | .opAdd6 => (.stream, 7)
  | .opAdd7 => (.stream, 8)
  | .opAdd8 => (.stream, 9)
  | .opAdd9 => (.stream, 10)
  | .opAdd10 => (.stream, 11)
  | .opAdd11 => (.stream, 12)
  | .opAdd12 => (.stream, 13)
  | .opAdd13 => (.stream, 14)
  | .opAdd14 => (.stream, 15)
  | .opAdd15 => (.stream, 16)
  | .opAdd16 => (.stream, 17)
  | .opAdd17 => (.stream, 18)
  | .opCopyM0 => (.stream, 19)
  | .opCopy4M0 => (.stream, 20)
  | .opCopy5M0 => (.stream, 21)
  | .opCopy6M0 => (.stream, 22)
  | .opCopy7M0 => (.stream, 23)
  | .opCopy8M0 => (.stream, 24)
  | .opCopy9M0 => (.stream, 25)
  | .opCopy10M0 => (.stream, 26)
  | .opCopy11M0 => (.stream, 27)
  | .opCopy12M0 => (.stream, 28)
  | .opCopy13M0 => (.stream, 29)
  | .opCopy14M0 => (.stream, 30)
  | .opCopy15M0 => (.stream, 31)
  | .opCopy16M0 => (.stream, 32)
  | .opCopy17M0 => (.stream, 33)
  | .opCopy18M0 => (.stream, 34)
  | .opCopyM1 => (.stream, 35)
  | .opCopy4M1 => (.stream, 36)
  | .opCopy5M1 => (.stream, 37)
  | .opCopy6M1 => (.stream, 38)
  | .opCopy7M1 => (.stream, 39)
  | .opCopy8M1 => (.stream, 40)
  | .opCopy9M1 => (.stream, 41)
  | .opCopy10M1 => (.stream, 42)
  | .opCopy11M1 => (.stream, 43)
  | .opCopy12M1 => (.stream, 44)
  | .opCopy13M1 => (.stream, 45)
  | .opCopy14M1 => (.stream, 46)
  | .opCopy15M1 => (.stream, 47)
  | .opCopy16M1 => (.stream, 48)
  | .opCopy17M1 => (.stream, 49)
  | .opCopy18M1 => (.stream, 50)
  | .opCopyM2 => (.stream, 51)
  | .opCopy4M2 => (.stream, 52)
  | .opCopy5M2 => (.stream, 53)
  | .opCopy6M2 => (.stream, 54)
  | .opCopy7M2 => (.stream, 55)
  | .opCopy8M2 => (.stream, 56)
  | .opCopy9M2 => (.stream, 57)
  | .opCopy10M2 => (.stream, 58)
  | .opCopy11M2 => (.stream, 59)
  | .opCopy12M2 => (.stream, 60)
  | .opCopy13M2 => (.stream, 61)
  | .opCopy14M2 => (.stream, 62)
  | .opCopy15M2 => (.stream, 63)
  | .opCopy16M2 => (.stream, 64)
  | .opCopy17M2 => (.stream, 65)
  | .opCopy18M2 => (.stream, 66)
  | .opCopyM3 => (.stream, 67)
  | .opCopy4M3 => (.stream, 68)
  | .opCopy5M3 => (.stream, 69)
  | .opCopy6M3 => (.stream, 70)
  | .opCopy7M3 => (.stream, 71)
  | .opCopy8M3 => (.stream, 72)
  | .opCopy9M3 => (.stream, 73)
  | .opCopy10M3 => (.stream, 74)
  | .opCopy11M3 => (.stream, 75)
  | .opCopy12M3 => (.stream, 76)
  | .opCopy13M3 => (.stream, 77)
  | .opCopy14M3 => (.stream, 78)
  | .opCopy15M3 => (.stream, 79)
  | .opCopy16M3 => (.stream, 80)
  | .opCopy17M3 => (.stream, 81)
  | .opCopy18M3 => (.stream, 82)
  | .opCopyM4 => (.stream, 83)
  | .opCopy4M4 => (.stream, 84)
  | .opCopy5M4 => (.stream, 85)
  | .opCopy6M4 => (.stream, 86)
  | .opCopy7M4 => (.stream, 87)
  | .opCopy8M4 => (.stream, 88)
  | .opCopy9M4 => (.stream, 89)
  | .opCopy10M4 => (.stream, 90)
  | .opCopy11M4 => (.stream, 91)
  | .opCopy12M4 => (.stream, 92)
  | .opCopy13M4 => (.stream, 93)
  | .opCopy14M4 => (.stream, 94)
  | .opCopy15M4 => (.stream, 95)
  | .opCopy16M4 => (.stream, 96)
  | .opCopy17M4 => (.stream, 97)
  | .opCopy18M4 => (.stream, 98)
  | .opCopyM5 => (.stream, 99)
  | .opCopy4M5 => (.stream, 100)
  | .opCopy5M5 => (.stream, 101)
  | .opCopy6M5 => (.stream, 102)
  | .opCopy7M5 => (.stream, 103)
  | .opCopy8M5 => (.stream, 104)
  | .opCopy9M5 => (.stream, 105)
  | .opCopy10M5 => (.stream, 106)
  | .opCopy11M5 => (.stream, 107)
  | .opCopy12M5 => (.stream, 108)
  | .opCopy13M5 => (.stream, 109)
  | .opCopy14M5 => (.stream, 110)
  | .opCopy15M5 => (.stream, 111)
  | .opCopy16M5 => (.stream, 112)
  | .opCopy17M5 => (.stream, 113)
  | .opCopy18M5 => (.stream, 114)
  | .opCopyM6 => (.stream, 115)
  | .opCopy4M6 => (.stream, 116)
  | .opCopy5M6 => (.stream, 117)
  | .opCopy6M6 => (.stream, 118)
  | .opCopy7M6 => (.stream, 119)
  | .opCopy8M6 => (.stream, 120)
  | .opCopy9M6 => (.stream, 121)
  | .opCopy10M6 => (.stream, 122)
  | .opCopy11M6 => (.stream, 123)
  | .opCopy12M6 => (.stream, 124)
  | .opCopy13M6 => (.stream, 125)
  | .opCopy14M6 => (.stream, 126)
  | .opCopy15M6 => (.stream, 127)
  | .opCopy16M6 => (.stream, 128)
  | .opCopy17M6 => (.stream, 129)
  | .opCopy18M6 => (.stream, 130)
  | .opCopyM7 => (.stream, 131)
  | .opCopy4M7 => (.stream, 132)
  | .opCopy5M7 => (.stream, 133)
  | .opCopy6M7 => (.stream, 134)
  | .opCopy7M7 => (.stream, 135)
  | .opCopy8M7 => (.stream, 136)
  | .opCopy9M7 => (.stream, 137)
  | .opCopy10M7 => (.stream, 138)
  | .opCopy11M7 => (.stream, 139)
  | .opCopy12M7 => (.stream, 140)
  | .opCopy13M7 => (.stream, 141)
  | .opCopy14M7 => (.stream, 142)
  | .opCopy15M7 => (.stream, 143)
  | .opCopy16M7 => (.stream, 144)
  | .opCopy17M7 => (.stream, 145)
  | .opCopy18M7 => (.stream, 146)
  | .opCopyM8 => (.stream, 147)
  | .opCopy4M8 => (.stream, 148)
  | .opCopy5M8 => (.stream, 149)
  | .opCopy6M8 => (.stream, 150)
  | .opCopy7M8 => (.stream, 151)
  | .opCopy8M8 => (.stream, 152)
  | .opCopy9M8 => (.stream, 153)
  | .opCopy10M8 => (.stream, 154)
  | .opCopy11M8 => (.stream, 155)
  | .opCopy12M8 => (.stream, 156)
  | .opCopy13M8 => (.stream, 157)
  | .opCopy14M8 => (.stream, 158)
  | .opCopy15M8 => (.stream, 159)
  | .opCopy16M8 => (.stream, 160)
  | .opCopy17M8 => (.stream, 161)
  | .opCopy18M8 => (.stream, 162)
  | .opAdd1Copy4M0 => (.stream, 163)
  | .opAdd1Copy5M0 => (.stream, 164)
  | .opAdd1Copy6M0 => (.stream, 165)
  | .opAdd2Copy4M0 => (.stream, 166)
  | .opAdd2Copy5M0 => (.stream, 167)
  | .opAdd2Copy6M0 => (.stream, 168)
  | .opAdd3Copy4M0 => (.stream, 169)
  | .opAdd3Copy5M0 => (.stream, 170)
  | .opAdd3Copy6M0 => (.stream, 171)
  | .opAdd4Copy4M0 => (.stream, 172)
  | .opAdd4Copy5M0 => (.stream, 173)
  | .opAdd4Copy6M0 => (.stream, 174)
  | .opAdd1Copy4M1 => (.stream, 175)
  | .opAdd1Copy5M1 => (.stream, 176)
  | .opAdd1Copy6M1 => (.stream, 177)
  | .opAdd2Copy4M1 => (.stream, 178)
  | .opAdd2Copy5M1 => (.stream, 179)
  | .opAdd2Copy6M1 => (.stream, 180)
  | .opAdd3Copy4M1 => (.stream, 181)
  | .opAdd3Copy5M1 => (.stream, 182)
  | .opAdd3Copy6M1 => (.stream, 183)
  | .opAdd4Copy4M1 => (.stream, 184)
  | .opAdd4Copy5M1 => (.stream, 185)
  | .opAdd4Copy6M1 => (.stream, 186)
  | .opAdd1Copy4M2 => (.stream, 187)
  | .opAdd1Copy5M2 => (.stream, 188)
  | .opAdd1Copy6M2 => (.stream, 189)
  | .opAdd2Copy4M2 => (.stream, 190)
  | .opAdd2Copy5M2 => (.stream, 191)
  | .opAdd2Copy6M2 => (.stream, 192)
  | .opAdd3Copy4M2 => (.stream, 193)
  | .opAdd3Copy5M2 => (.stream, 194)
  | .opAdd3Copy6M2 => (.stream, 195)
  | .opAdd4Copy4M2 => (.stream, 196)
  | .opAdd4Copy5M2 => (.stream, 197)
  | .opAdd4Copy6M2 => (.stream, 198)
  | .opAdd1Copy4M3 => (.stream, 199)
  | .opAdd1Copy5M3 => (.stream, 200)
  | .opAdd1Copy6M3 => (.stream, 201)
  | .opAdd2Copy4M3 => (.stream, 202)
  | .opAdd2Copy5M3 => (.stream, 203)
  | .opAdd2Copy6M3 => (.stream, 204)
  | .opAdd3Copy4M3 => (.stream, 205)
  | .opAdd3Copy5M3 => (.stream, 206)
  | .opAdd3Copy6M3 => (.stream, 207)
  | .opAdd4Copy4M3 => (.stream, 208)
  | .opAdd4Copy5M3 => (.stream, 209)
  | .opAdd4Copy6M3 => (.stream, 210)
  | .opAdd1Copy4M4 => (.stream, 211)
  | .opAdd1Copy5M4 => (.stream, 212)
  | .opAdd1Copy6M4 => (.stream, 213)
  | .opAdd2Copy4M4 => (.stream, 214)
  | .opAdd2Copy5M4 => (.stream, 215)
  | .opAdd2Copy6M4 => (.stream, 216)
  | .opAdd3Copy4M4 => (.stream, 217)
  | .opAdd3Copy5M4 => (.stream, 218)
  | .opAdd3Copy6M4 => (.stream, 219)
  | .opAdd4Copy4M4 => (.stream, 220)
  | .opAdd4Copy5M4 => (.stream, 221)
  | .opAdd4Copy6M4 => (.stream, 222)
  | .opAdd1Copy4M5 => (.stream, 223)
  | .opAdd1Copy5M5 => (.stream, 224)
  | .opAdd1Copy6M5 => (.stream, 225)
  | .opAdd2Copy4M5 => (.stream, 226)
  | .opAdd2Copy5M5 => (.stream, 227)
  | .opAdd2Copy6M5 => (.stream, 228)
  | .opAdd3Copy4M5 => (.stream, 229)
  | .opAdd3Copy5M5 => (.stream, 230)
  | .opAdd3Copy6M5 => (.stream, 231)
  | .opAdd4Copy4M5 => (.stream, 232)
  | .opAdd4Copy5M5 => (.stream, 233)
  | .opAdd4Copy6M5 => (.stream, 234)
  | .opAdd1Copy4M6 => (.stream, 235)
  | .opAdd2Copy4M6 => (.stream, 236)
  | .opAdd3Copy4M6 => (.stream, 237)
  | .opAdd4Copy4M6 => (.stream, 238)
  | .opAdd1Copy4M7 => (.stream, 239)
  | .opAdd2Copy4M7 => (.stream, 240)
  | .opAdd3Copy4M7 => (.stream, 241)
  | .opAdd4Copy4M7 => (.stream, 242)
  | .opAdd1Copy4M8 => (.stream, 243)
  | .opAdd2Copy4M8 => (.stream, 244)
  | .opAdd3Copy4M8 => (.stream, 245)
  | .opAdd4Copy4M8 => (.stream, 246)
  | .opCopy4M0Add1 => (.stream, 247)
  | .opCopy4M1Add1 => (.stream, 248)
  | .opCopy4M2Add1 => (.stream, 249)
  | .opCopy4M3Add1 => (.stream, 250)
  | .opCopy4M4Add1 => (.stream, 251)
  | .opCopy4M5Add1 => (.stream, 252)
  | .opCopy4M6Add1 => (.stream, 253)
  | .opCopy4M7Add1 => (.stream, 254)
  | .opCopy4M8Add1 => (.stream, 255)

/-- The command code of an instruction that is a command. -/
def Instr.commandCode? (i : Instr) : Option Byte := if (encode i).1 = .command then some (encode i).2 else none

/-- The opcode byte of an instruction that is an opcode row. -/
def Instr.opcode? (i : Instr) : Option Byte := if (encode i).1 = .stream then some (encode i).2 else none

/-- The instruction a word of the opcode table stands for. Every row is one byte. A byte that is a command code is read as the
command, any other as the opcode byte: the table gives 30 byte values to two rows each, and a word alone cannot tell them
apart (log 1). -/
def decodeTableWord (nbits w : Nat) : Option Instr :=
  if nbits = 8 ∧ w < 256 then
    match decodeCommand (BitVec.ofNat 8 w) with
    | some i => some i
    | none => decodeOpcode (BitVec.ofNat 8 w)
  else none

end Sys2Proof
end

