-- ==== Sys2Proof/Assembly.lean ====
section
/-! DEFINITION. The assembler lines of `30_encoding.md` R303: a command with its operands, and the five
pseudo-instructions, which are host-side sequences. Their expansion is in `Sys2Proof.Machine.Assembler`. -/

namespace Sys2Proof

/-- A line of the assembler syntax (R303). Operands are numbers, as written; `WellFormed` says which fit. -/
inductive AsmLine where
  /-- `MNEMONIC a0, a1, a2, a3`: `ai` is placed in ARGi before the command. -/
  | command (i : Instr) (operands : List Nat)
  /-- `IN_BYTES b0, b1, ..., bn`. -/
  | inBytes (bytes : List Nat)
  /-- `IN_STR "text"`, the text as its ASCII codes. -/
  | inStr (codes : List Nat)
  /-- `CT_LOAD_CUSTOM near, same, t[0..1535]`. -/
  | ctLoadCustom (near same : Nat) (table : List Nat)
  /-- `SET reg, v`. -/
  | set (reg v : Nat)
  /-- `GET reg`. -/
  | get (reg : Nat)
deriving DecidableEq, Repr

/-- How many operands a command lists in R300's table; none for an opcode row, which is no command. -/
def Instr.operandCount : Instr → Option Nat
  | .nop => some 0
  | .venc32 => some 1
  | .venc64 => some 1
  | .vdec32 => some 2
  | .vdec64 => some 2
  | .ctLoadDefault => some 0
  | .ctSetCache => some 2
  | .ctWrite => some 3
  | .ctRead => some 2
  | .ctCommit => some 0
  | .mapFirst => some 3
  | .mapSecond => some 4
  | .rdStart => some 2
  | .rdExtend => some 1
  | .rdSeek => some 1
  | .rdGet => some 0
  | .rdUnget => some 0
  | .wrAdd => some 2
  | .wrRun => some 2
  | .wrCopy => some 3
  | .wrOutput => some 4
  | .wrDiscard => some 0
  | .fhWrite => some 2
  | .fhParse => some 1
  | .whParse => some 1
  | .winEnd => some 1
  | .regRead => some 1
  | .regWrite => some 2
  | .inAppend => some 1
  | .reset => some 0
  | _ => none

end Sys2Proof
end

