-- ==== Sys2Proof/HostBus.lean ====
section
/-! DEFINITION. The host's side of the block: the accesses a host may make (`10_state.md` R100, `20_memory.md` R202) and the
placement of the ports in its address space (HOST_MAP, R208). -/

namespace Sys2Proof

/-- One access of the host (R100, R202, R607). A write to RES or STATUS and a read of ARG are no moves of the host (U10; log 11). -/
inductive HostAccess where
  /-- The host writes an argument register. -/
  | writeArg (i : Fin 4) (v : Word)
  /-- The host writes a command code into CMD, which issues the command (R100, R300). -/
  | writeCmd (code : Byte)
  /-- The host reads a result register. -/
  | readRes (i : Fin 4)
  /-- The host reads STATUS. -/
  | readStatus
  /-- The host reads the byte of OUT at position `p` (R202). -/
  | readOut (p : Nat)
  /-- The host reads the byte of IN at position `p` (R607 step 2; log 11). -/
  | readIn (p : Nat)
  /-- The host reads CMD: any value (U9; log 4). -/
  | readCmd
deriving DecidableEq, Repr

/-- The ports of the block that HOST_MAP places (`92_eei_decisions.md`, OPEN parameters). -/
inductive Port where
  | arg (i : Fin 4)
  | res (i : Fin 4)
  | cmd
  | status
deriving DecidableEq, Repr

/-- HOST_MAP: which host address each port stands at (R208, R1022; D47; log 12). -/
abbrev HostMap := List (Nat × Port)

/-- Every port stands at one address and every address holds one port. -/
abbrev HostMap.wf (m : HostMap) : Prop := (m.map Prod.fst).Nodup ∧ (m.map Prod.snd).Nodup

end Sys2Proof
end

