-- ==== Sys2Proof/Machine/Assembler.lean ====
section
/-! DEFINITION. The expansion of assembler lines into the host's accesses (`30_encoding.md` R303). An operand that a line omits
leaves its ARG register as it is (log 18). -/

namespace Sys2Proof.Machine

/-- Writes operands into ARG0, ARG1, ... in order. -/
def writeOperands : Nat → List Nat → List HostAccess
  | _, [] => []
  | n, v :: rest => if h : n < 4 then .writeArg ⟨n, h⟩ (w64 v) :: writeOperands (n + 1) rest else []

/-- A command line: its operands, then its code into CMD. -/
def issue (i : Instr) (operands : List Nat) : List HostAccess := writeOperands 0 operands ++ [.writeCmd (encode i).2]

/-- The CT_WRITEs of a custom table image from byte `n` on: array n / 256, row n % 256 (R303, R324). -/
def loadImage : Nat → List Nat → List HostAccess
  | _, [] => []
  | n, b :: rest => issue .ctWrite [n / 256, n % 256, b] ++ loadImage (n + 1) rest

/-- What a line stands for (R303). -/
def expand : AsmLine → List HostAccess
  | .command i operands => issue i operands
  | .inBytes bytes => bytes.flatMap (fun b => issue .inAppend [b])
  | .inStr codes => codes.flatMap (fun b => issue .inAppend [b])
  | .ctLoadCustom near same table => issue .ctSetCache [near, same] ++ loadImage 0 table ++ issue .ctCommit []
  | .set reg v => issue .regWrite [reg, v]
  | .get reg => issue .regRead [reg]

end Sys2Proof.Machine
end

