-- ==== Sys2Proof/Config.lean ====
section
/-! DEFINITION. What an implementation fixes: the OPEN parameters of `00_scope.md` R6 and the one free value of
`93_implementation_defined.md` (U9). The third OPEN parameter, HOST_MAP, is in `Sys2Proof.HostBus`. -/

namespace Sys2Proof

/-- The OPEN parameters a model takes as arguments (R6, R117; D5, D22). State carries them and no step changes them (log 5). -/
structure Config where
  /-- IN_SIZE: the capacity of IN in bytes. -/
  inSize : Nat
  /-- WR_CAPACITY: the most bytes DATA, INSTS and ADDRS may hold together. -/
  wrCapacity : Nat
deriving DecidableEq, Repr

/-- The ranges of the parameters: at least 1 (R6), and small enough that a position fits a 64-bit register (R102; log 5). -/
abbrev Config.wf (c : Config) : Prop :=
  1 ≤ c.inSize ∧ c.inSize ≤ 9223372036854775808 ∧ 1 ≤ c.wrCapacity ∧ c.wrCapacity ≤ 9223372036854775808

/-- The parameters `State.reset` carries. DESIGN CHOICE, unsafe (log 5): the spec gives no value, and no statement rests on these. -/
def Config.standard : Config := { inSize := 2147483647, wrCapacity := 2147483647 }

/-- U9: what a host reads from CMD is any value. A free value, indexed by the number of the read (log 4). -/
opaque Config.cmdReadback : Nat → Byte

end Sys2Proof
end

