-- ==== Sys2Proof/Machine/Constants.lean ====
section
/-! DEFINITION. The fixed numbers of the spec: the parameters of `00_scope.md` R6 that are not OPEN, the instruction type codes
(R12), and the bytes of the two headers (`30_encoding.md` R331 to R333, R341, R342). -/

namespace Sys2Proof.Machine

/-- MAX_FIELD (R6; D7). -/
abbrev maxField : Nat := 2147483647

/-- The largest 32-bit varint value, 2^32-1 (R6; D8). -/
abbrev varint32Max : Nat := 4294967295

/-- The largest 64-bit varint value, 2^63-1 (R6; D9). -/
abbrev varint64Max : Nat := 9223372036854775807

/-- VARINT32_MAX_BYTES (R6). -/
abbrev varint32Bytes : Nat := 5

/-- VARINT64_MAX_BYTES (R6). -/
abbrev varint64Bytes : Nat := 9

/-- NEAR_SIZE + SAME_SIZE is at most this (R6; D13). -/
abbrev cacheLimit : Nat := 254

/-- NEAR_SIZE default (R6). -/
abbrev defaultNear : Nat := 4

/-- SAME_SIZE default (R6). -/
abbrev defaultSame : Nat := 3

/-- Instruction type codes (R12; PRESUMED by the spec, I2, log 10). -/
def typNoop : Byte := 0

/-- ADD. -/
def typAdd : Byte := 1

/-- RUN. -/
def typRun : Byte := 2

/-- COPY. -/
def typCopy : Byte := 3

/-- The three magic bytes (R331). -/
def magic1 : Byte := 0xD6

def magic2 : Byte := 0xC3

def magic3 : Byte := 0xC4

/-- The version byte of the standard format (R332). -/
def versionStandard : Byte := 0x00

/-- The version byte of the extended format (R332). -/
def versionExtended : Byte := 0x53

end Sys2Proof.Machine
end

