-- ==== Sys2Proof/Machine/Memory.lean ====
section
/-! DEFINITION. A byte memory as a list of (address, byte) pairs in one canonical form: addresses strictly rising, and no
pair that says what an unlisted address reads as anyway. `bg` is what an unlisted address reads as. CT is held so (log 6). -/

namespace Sys2Proof.Machine

/-- The listed byte at an address. -/
def Memory.lookup : List Host.Cell → Nat → Option Byte
  | [], _ => none
  | (k, v) :: rest, a => if k = a then some v else Memory.lookup rest a

/-- What an address reads as. -/
def Memory.read (bg : Nat → Byte) (m : List Host.Cell) (a : Nat) : Byte := (Memory.lookup m a).getD (bg a)

/-- Lists a byte at its place in the rising order. -/
def Memory.put : List Host.Cell → Nat → Byte → List Host.Cell
  | [], a, v => [(a, v)]
  | (k, u) :: rest, a, v =>
    if a < k then (a, v) :: (k, u) :: rest
    else if a = k then (a, v) :: rest
    else (k, u) :: Memory.put rest a v

/-- Unlists an address. -/
def Memory.erase (m : List Host.Cell) (a : Nat) : List Host.Cell := m.filter (fun c => c.1 != a)

/-- Writes one byte: a byte equal to what the unlisted address reads as is unlisted, any other is listed. -/
def Memory.write (bg : Nat → Byte) (m : List Host.Cell) (a : Nat) (v : Byte) : List Host.Cell :=
  if v = bg a then Memory.erase m a else Memory.put m a v

/-- Addresses strictly rising, all at least `lo`. -/
def Memory.rising : Nat → List Host.Cell → Bool
  | _, [] => true
  | lo, (k, _) :: rest => lo ≤ k && Memory.rising (k + 1) rest

/-- The canonical form of a memory of `size` bytes. -/
def Memory.wf (bg : Nat → Byte) (size : Nat) (m : List Host.Cell) : Bool :=
  Memory.rising 0 m && m.all (fun c => c.1 < size && c.2 != bg c.1)

/-- The cells of a byte sequence that starts at an address: how IN and OUT, held as sequences, read as cells (log 6). -/
def Memory.ofBytes : Nat → List Byte → List Host.Cell
  | _, [] => []
  | a, b :: rest => (a, b) :: Memory.ofBytes (a + 1) rest

end Sys2Proof.Machine
end

