-- ==== Sys2Proof/Machine/CodeTable.lean ====
section
/-! DEFINITION. The code table and the InstructionMap as functions of CT (`41_codetable.md` section 1, `30_encoding.md` R320 to R324). -/

namespace Sys2Proof.Machine

/-- One half of a code-table row: instruction type code, table size, COPY mode (R322). -/
structure Half where
  typ : Byte
  size : Byte
  mode : Byte
deriving DecidableEq, Repr

/-- A code-table row: the two instructions an opcode describes (R109). -/
structure Row where
  first : Half
  second : Half
deriving DecidableEq, Repr

/-- The half that holds nothing. -/
def noopHalf : Half := { typ := typNoop, size := 0, mode := 0 }

/-- A half from numbers. -/
def mkHalf (typ : Byte) (size mode : Nat) : Half :=
  { typ := typ, size := BitVec.ofNat 8 size, mode := BitVec.ofNat 8 mode }

/-- The default code table, R320's formulas (PRESUMED by the spec, I1, log 10). -/
def defaultRow (op : Nat) : Row :=
  if op = 0 then { first := mkHalf typRun 0 0, second := noopHalf }
  else if op ≤ 18 then { first := mkHalf typAdd (op - 1) 0, second := noopHalf }
  else if op ≤ 162 then
    let m := (op - 19) / 16
    let j := (op - 19) % 16
    { first := mkHalf typCopy (if j = 0 then 0 else j + 3) m, second := noopHalf }
  else if op ≤ 234 then
    let m := (op - 163) / 12
    let j := (op - 163) % 12
    { first := mkHalf typAdd (1 + j / 3) 0, second := mkHalf typCopy (4 + j % 3) m }
  else if op ≤ 246 then
    let m := 6 + (op - 235) / 4
    let j := (op - 235) % 4
    { first := mkHalf typAdd (1 + j) 0, second := mkHalf typCopy 4 m }
  else
    { first := mkHalf typCopy 4 (op - 247), second := mkHalf typAdd 1 0 }

/-- The byte of a row in array `a`: 0 inst1, 1 inst2, 2 size1, 3 size2, 4 mode1, 5 mode2 (R109). -/
def Row.byte (r : Row) (a : Nat) : Byte :=
  match a with
  | 0 => r.first.typ
  | 1 => r.second.typ
  | 2 => r.first.size
  | 3 => r.second.size
  | 4 => r.first.mode
  | _ => r.second.mode

/-- How many bytes CT has (R109). -/
def ctSize : Nat := 1536

/-- The address of array `a`, row `r`: byte 256*a + r of the table's 1536-byte image (R324). -/
def ctAddr (a r : Nat) : Nat := 256 * a + r

/-- The default table's byte at an address: what an unlisted address of CT reads as (R109, R1100). -/
def defaultByte (addr : Nat) : Byte := (defaultRow (addr % 256)).byte (addr / 256)

/-- The default table as its 1536-byte image (U5, R324). -/
def defaultImage : List Byte := (List.range ctSize).map defaultByte

/-- CT holding the default table: nothing listed. -/
def defaultCt : List Host.Cell := []

/-- `CT[a][r]` (R9). -/
def ctByte (ct : List Host.Cell) (a r : Nat) : Byte := Memory.read defaultByte ct (ctAddr a r)

/-- `CT[a][r] <- v`. -/
def ctSet (ct : List Host.Cell) (a r : Nat) (v : Byte) : List Host.Cell := Memory.write defaultByte ct (ctAddr a r) v

/-- `first(op)` of R603. -/
def firstHalf (ct : List Host.Cell) (op : Nat) : Half :=
  { typ := ctByte ct 0 op, size := ctByte ct 2 op, mode := ctByte ct 4 op }

/-- `second(op)` of R603. -/
def secondHalf (ct : List Host.Cell) (op : Nat) : Half :=
  { typ := ctByte ct 1 op, size := ctByte ct 3 op, mode := ctByte ct 5 op }

/-- Row `op` of CT. -/
def ctRow (ct : List Host.Cell) (op : Nat) : Row := { first := firstHalf ct op, second := secondHalf ct op }

/-- The inst-mode index (R501). NOOP has none. -/
def instIdx (typ : Byte) (mode : Nat) : Nat :=
  if typ = typAdd then 1 else if typ = typRun then 2 else 3 + mode

/-- R503 (1): a row half is well-formed. -/
def halfOk (maxMode : Nat) (h : Half) : Bool :=
  h.typ.toNat ≤ 3
    && (h.typ != typNoop || h.size == 0)
    && (h.typ == typCopy || h.mode == 0)
    && (h.typ != typCopy || h.mode.toNat ≤ maxMode)

/-- R503 (2): a row is the size-0 single opcode of a type and mode. -/
def isSizeZeroSingle (typ : Byte) (mode : Nat) (r : Row) : Bool :=
  r.first.typ == typ && r.first.mode.toNat == mode && r.first.size == 0 && r.second.typ == typNoop

/-- The type and mode pairs R503 (2) ranges over. -/
def reachablePairs (maxMode : Nat) : List (Byte × Nat) :=
  (typAdd, 0) :: (typRun, 0) :: (List.range (maxMode + 1)).map (fun m => (typCopy, m))

/-- `validate(CT, MAX_MODE)` (R503). -/
def validate (ct : List Host.Cell) (maxMode : Nat) : Bool :=
  let rows := (List.range 256).map (ctRow ct)
  rows.all (fun r => halfOk maxMode r.first && halfOk maxMode r.second)
    && (reachablePairs maxMode).all (fun p => rows.any (isSizeZeroSingle p.1 p.2))

/-- An entry of FIRST: FIRST[key][size] = op (R110; log 13). -/
structure FirstEntry where
  key : Nat
  size : Nat
  op : Byte
deriving DecidableEq, Repr

/-- An entry of SECOND: SECOND[first][key][size] = op (R110). -/
structure SecondEntry where
  first : Byte
  key : Nat
  size : Nat
  op : Byte
deriving DecidableEq, Repr

/-- FIRST[k][s]. -/
def firstAt (m : List FirstEntry) (k s : Nat) : Option Byte :=
  (m.find? (fun e => e.key == k && e.size == s)).map FirstEntry.op

/-- SECOND[f][k][s]. -/
def secondAt (m : List SecondEntry) (f : Byte) (k s : Nat) : Option Byte :=
  (m.find? (fun e => e.first == f && e.key == k && e.size == s)).map SecondEntry.op

/-- One row of pass 1 (R504): an entry is added only where there is none, so the lowest opcode wins. -/
def addFirst (ct : List Host.Cell) (m : List FirstEntry) (op : Nat) : List FirstEntry :=
  let r := ctRow ct op
  let k := instIdx r.first.typ r.first.mode.toNat
  if r.first.typ ≠ typNoop ∧ r.second.typ = typNoop ∧ firstAt m k r.first.size.toNat = none then
    m ++ [{ key := k, size := r.first.size.toNat, op := BitVec.ofNat 8 op }]
  else m

/-- Pass 1 (R504). -/
def buildFirst (ct : List Host.Cell) : List FirstEntry := (List.range 256).foldl (addFirst ct) []

/-- One row of pass 2 (R505), against the finished FIRST. -/
def addSecond (ct : List Host.Cell) (fst : List FirstEntry) (m : List SecondEntry) (op : Nat) : List SecondEntry :=
  let r := ctRow ct op
  if r.first.typ ≠ typNoop ∧ r.second.typ ≠ typNoop then
    match firstAt fst (instIdx r.first.typ r.first.mode.toNat) r.first.size.toNat with
    | none => m
    | some f =>
      let k := instIdx r.second.typ r.second.mode.toNat
      if secondAt m f k r.second.size.toNat = none then
        m ++ [{ first := f, key := k, size := r.second.size.toNat, op := BitVec.ofNat 8 op }]
      else m
  else m

/-- Pass 2 (R505). -/
def buildSecond (ct : List Host.Cell) (fst : List FirstEntry) : List SecondEntry :=
  (List.range 256).foldl (addSecond ct fst) []

/-- `firstLookup(k, s)` (R506): the exact size first, then size 0. -/
def firstLookup (m : List FirstEntry) (k s : Nat) : Option Byte :=
  match (if s ≤ 255 then firstAt m k s else none) with
  | some o => some o
  | none => firstAt m k 0

/-- `secondLookup(f, k, s)` (R506). -/
def secondLookup (m : List SecondEntry) (f : Byte) (k s : Nat) : Option Byte :=
  match (if s ≤ 255 then secondAt m f k s else none) with
  | some o => some o
  | none => secondAt m f k 0

end Sys2Proof.Machine
end

