-- ==== Sys2Proof/Machine/State.lean ====
section
/-! DEFINITION. The state of the block: everything `10_state.md` names, as plain data, and its reset values
(`70_reset_and_hazards.md` R1100). -/

namespace Sys2Proof.Machine

/-- The status codes (`60_exceptions.md` R1001). Values 8..255 are never written, so they are not represented (log 15). -/
inductive Status where
  | ok
  | truncated
  | malformed
  | outOfRange
  | unsupported
  | illegal
  | stateError
  | sessionFailed
deriving DecidableEq, Repr

/-- Why the machine stops. No instruction stops (R1007): both faults are an access of the host to a byte that does not exist. -/
inductive Fault where
  /-- Raised by a host read of OUT at a position at or beyond OUT_LEN: OUT has positions 0..OUT_LEN-1 only (R200). Safe (log 11). -/
  | outByteAbsent
  /-- Raised by a host read of IN at a position at or beyond IN_LEN: IN has positions 0..IN_LEN-1 only (R200). Safe (log 11). -/
  | inByteAbsent
deriving DecidableEq, Repr

/-- Why an instruction has no meaning here. -/
inductive Refusal where
  /-- Raised by an arm of `exec` whose instruction has no meaning yet. Safe. No arm raises it. -/
  | notModelled (mnemonic : String)
deriving DecidableEq, Repr

/-- What a step or an instruction answers. -/
abbrev Result (σ : Type) := Host.Outcome σ Fault Refusal

/-- Four registers: ARG0..ARG3 or RES0..RES3 (`10_state.md` R100). -/
structure Quad where
  r0 : Word
  r1 : Word
  r2 : Word
  r3 : Word
deriving DecidableEq, Repr

/-- An instruction record (R118). The type and mode are bytes, as they stand in CT. -/
structure InstRecord where
  typ : Byte
  size : Word
  mode : Byte
deriving DecidableEq, Repr

/-- The W_ registers, 0x20..0x2E (R105). `layout` holds bits 1..0 of W_LAYOUT; bits 63..2 read 0 (log 15). -/
structure WindowRegs where
  indicator : Word
  srcLen : Word
  srcPos : Word
  deltaLen : Word
  targetSize : Word
  deltaInd : Word
  dataLen : Word
  instLen : Word
  addrLen : Word
  checksum : Word
  dataStart : Word
  instStart : Word
  addrStart : Word
  windowEnd : Word
  layout : BitVec 2
deriving DecidableEq, Repr

/-- The state of the block. The last four fields are the model's own: the parameters and the host (log 3, 4, 5, 16). -/
structure State where
  /-- ARG0..ARG3 (R100). -/
  arg : Quad
  /-- RES0..RES3 (R100). -/
  res : Quad
  /-- CMD, the code last written into it (R100; log 4). -/
  cmd : Byte
  /-- STATUS (R100, R1001). -/
  status : Status
  /-- CTRL bits 2..0 (R106). -/
  ctrl : BitVec 3
  /-- DICT_SIZE. -/
  dictSize : Word
  /-- MAX_WINDOW_SIZE. -/
  maxWindowSize : Word
  /-- MAX_FILE_SIZE. -/
  maxFileSize : Word
  /-- NEAR_SIZE (R108). -/
  nearSize : Word
  /-- SAME_SIZE (R108). -/
  sameSize : Word
  /-- DEC_TARGET_TOTAL (R113). -/
  decTargetTotal : Word
  /-- FLAGS bit 0 (R104). -/
  tableValid : Bool
  /-- FLAGS bit 1. -/
  readerActive : Bool
  /-- FLAGS bit 2. -/
  winActive : Bool
  /-- FLAGS bit 3. -/
  decOpen : Bool
  /-- FLAGS bit 4. -/
  encOpen : Bool
  /-- FLAGS bit 5. -/
  extAllowed : Bool
  /-- FLAGS bit 6. -/
  sessionFailed : Bool
  /-- CT, in canonical form over the default table (R109; log 6). -/
  ct : List Host.Cell
  /-- FIRST (R110). -/
  first : List FirstEntry
  /-- SECOND (R110). -/
  second : List SecondEntry
  /-- RD_POS (R111). -/
  rdPos : Word
  /-- RD_END (R111). -/
  rdEnd : Word
  /-- PENDING_OP (R111). -/
  pendingOp : Option Byte
  /-- PUSHBACK_INST (R111). -/
  pushbackInst : Option InstRecord
  /-- LAST_INST (R111). -/
  lastInst : Option InstRecord
  /-- DATA (R112). -/
  data : List Byte
  /-- INSTS (R112). -/
  insts : List Byte
  /-- ADDRS (R112). -/
  addrs : List Byte
  /-- WR_LAST (R112). -/
  wrLast : Option Nat
  /-- WR_INST_COUNT (R112). -/
  wrInstCount : Word
  /-- WR_TARGET_LEN (R112). -/
  wrTargetLen : Word
  /-- The W_ registers (R105, R113). -/
  w : WindowRegs
  /-- IN: the byte at position p is `inp[p]`, IN_LEN is its length (R115, R201). -/
  inp : List Byte
  /-- OUT (R115, R202). -/
  out : List Byte
  /-- The OPEN parameters (R6, R117). -/
  cfg : Config
  /-- The host's accesses still to come. -/
  host : List HostAccess
  /-- What the host's last read returned. -/
  hostData : Word
  /-- How many times the host has read CMD: the index of the free value of the next read. -/
  freeReads : Nat
deriving DecidableEq, Repr

/-- The W_ registers at reset (R1100). -/
def WindowRegs.reset : WindowRegs :=
  { indicator := 0, srcLen := 0, srcPos := 0, deltaLen := 0, targetSize := 0, deltaInd := 0, dataLen := 0, instLen := 0,
    addrLen := 0, checksum := 0, dataStart := 0, instStart := 0, addrStart := 0, windowEnd := 0, layout := 0 }

/-- The reset state of a block with the given parameters (R1100): the block's argument of R6. -/
def State.resetWith (cfg : Config) : State :=
  { arg := { r0 := 0, r1 := 0, r2 := 0, r3 := 0 }
    res := { r0 := 0, r1 := 0, r2 := 0, r3 := 0 }
    cmd := 0
    status := .ok
    ctrl := 4
    dictSize := 0
    maxWindowSize := w64 maxField
    maxFileSize := w64 maxField
    nearSize := w64 defaultNear
    sameSize := w64 defaultSame
    decTargetTotal := 0
    tableValid := true
    readerActive := false
    winActive := false
    decOpen := false
    encOpen := false
    extAllowed := false
    sessionFailed := false
    ct := defaultCt
    first := buildFirst defaultCt
    second := buildSecond defaultCt (buildFirst defaultCt)
    rdPos := 0
    rdEnd := 0
    pendingOp := none
    pushbackInst := none
    lastInst := none
    data := []
    insts := []
    addrs := []
    wrLast := none
    wrInstCount := 0
    wrTargetLen := 0
    w := WindowRegs.reset
    inp := []
    out := []
    cfg := cfg
    host := []
    hostData := 0
    freeReads := 0 }

/-- The block right after power-on, for the parameters of log 5. -/
def State.reset : State := State.resetWith Config.standard

end Sys2Proof.Machine
end

