-- ==== Sys2Proof/Machine/Varint.lean ====
section
/-! DEFINITION. The varint functions (`40_varint.md` section 1). The byte order is decided here once: most significant group
first (`20_memory.md` R204, `30_encoding.md` R310). -/

namespace Sys2Proof.Machine

/-- The loop of R401: prepends the groups of `v` while any is left. -/
def vencLoop : Nat → Nat → List Byte → List Byte
  | 0, _, groups => groups
  | fuel + 1, v, groups =>
    if v > 0 then vencLoop fuel (v / 128) (BitVec.ofNat 8 (128 + v % 128) :: groups) else groups

/-- `venc(v)` (R401), the canonical varint of a value of a 64-bit register: at most ten groups (log 14). -/
def venc (v : Nat) : List Byte := vencLoop 9 (v / 128) [BitVec.ofNat 8 (v % 128)]

/-- `vlen(v)` (R405, R311). -/
def vlen (v : Nat) : Nat := (venc v).length

/-- The outcomes of a varint decode (R403). -/
inductive VarintOutcome where
  | truncated
  | malformed
  | ok (value next : Nat)
deriving DecidableEq, Repr

/-- The loop of R403: `left` is MAXB - n. A position below `lim` that IN does not hold is taken as the limit (log 9). -/
def vdecLoop (inp : List Byte) (vmax lim : Nat) : Nat → Nat → Nat → VarintOutcome
  | left, val, q =>
    if q ≥ lim then .truncated
    else
      match left with
      | 0 => .malformed
      | left + 1 =>
        match inp[q]? with
        | none => .truncated
        | some b =>
          let val' := val * 128 + b.toNat % 128
          if b.toNat < 128 then
            if val' > vmax then .malformed else .ok val' (q + 1)
          else vdecLoop inp vmax lim left val' (q + 1)

/-- `vdec32(p, lim)` (R403). -/
def vdec32 (inp : List Byte) (p lim : Nat) : VarintOutcome := vdecLoop inp varint32Max lim varint32Bytes 0 p

/-- `vdec64(p, lim)` (R404). -/
def vdec64 (inp : List Byte) (p lim : Nat) : VarintOutcome := vdecLoop inp varint64Max lim varint64Bytes 0 p

end Sys2Proof.Machine
end

