-- ==== Sys2Proof/Machine/Ops.lean ====
section
/-! DEFINITION. The shared operations: how a command ends (`60_exceptions.md` R1002, R1003, R1011; the block's whole exception
mechanism), the accesses to IN, OUT and the writer regions (`20_memory.md` R200 to R202), and the field readers of the
parsers (`44_window_parser.md` R800). -/

namespace Sys2Proof.Machine

/-- How a command fails. -/
inductive Failure where
  /-- `fail S`: only STATUS changes (R9). -/
  | plain (st : Status)
  /-- `fail_stream S`: a stream-content error, SESSION_FAILED is set too (R800, R1003). -/
  | stream (st : Status)
  /-- RD_GET at the end of the instruction stream: TRUNCATED, and RD_POS keeps the skipped bytes (R604, R1002). -/
  | exhausted (pos : Nat)
deriving DecidableEq, Repr

/-- Ends a command with a failure: the one place where a status other than OK is raised. -/
def fail (f : Failure) (s : State) : State :=
  match f with
  | .plain st => { s with status := st }
  | .stream st => { s with status := st, sessionFailed := true }
  | .exhausted pos => { s with status := .truncated, rdPos := w64 pos }

/-- Ends a command: `ok` with the writes its body made, or a failure with none of them (R207, R1002). -/
def finish (s : State) : Except Failure State → State
  | .ok t => { t with status := .ok }
  | .error f => fail f s

/-- Runs a command's body. Every command is one atomic step that ends in a next state (R10, R1007). -/
def command (body : State → Except Failure State) (s : State) : Result State := .next (finish s (body s))

/-- A precondition: go on if it holds, else end with the failure. -/
def check (p : Prop) [Decidable p] (f : Failure) : Except Failure Unit := if p then .ok () else .error f

/-- ARG0 as a number; ARG registers are read whole and unsigned (R8, R302). -/
def State.a0 (s : State) : Nat := s.arg.r0.toNat

/-- ARG1. -/
def State.a1 (s : State) : Nat := s.arg.r1.toNat

/-- ARG2. -/
def State.a2 (s : State) : Nat := s.arg.r2.toNat

/-- ARG3. -/
def State.a3 (s : State) : Nat := s.arg.r3.toNat

/-- IN_LEN (R105). -/
def State.inLen (s : State) : Nat := s.inp.length

/-- OUT_LEN (R105). -/
def State.outLen (s : State) : Nat := s.out.length

/-- MAX_MODE (R108). -/
def State.maxMode (s : State) : Nat := 1 + s.nearSize.toNat + s.sameSize.toNat

/-- `InRead(p)` (R9, R201). -/
def State.inRead (s : State) (p : Nat) : Option Byte := s.inp[p]?

/-- The three byte memories of R200. -/
inductive MemSpace where
  | inp
  | out
  | ct
deriving DecidableEq, Repr

/-- The model's read of one byte of an address space; `none` where R200 has no such address. -/
def State.readByte (s : State) (m : MemSpace) (a : Nat) : Option Byte :=
  match m with
  | .inp => s.inp[a]?
  | .out => s.out[a]?
  | .ct => if a < ctSize then some (Memory.read defaultByte s.ct a) else none

/-- `OutAppend(bytes)` (R202). -/
def State.outAppend (s : State) (bytes : List Byte) : State := { s with out := s.out ++ bytes }

/-- IN[IN_LEN] <- b, and IN_LEN grows by one (R201, R903). -/
def State.inAppend (s : State) (b : Byte) : State := { s with inp := s.inp ++ [b] }

/-- RES0 <- v. -/
def State.setRes0 (s : State) (v : Nat) : State := { s with res := { s.res with r0 := w64 v } }

/-- RES0 and RES1. -/
def State.setRes01 (s : State) (v0 v1 : Nat) : State := { s with res := { s.res with r0 := w64 v0, r1 := w64 v1 } }

/-- RES0, RES1 and RES2. -/
def State.setRes012 (s : State) (v0 v1 v2 : Nat) : State :=
  { s with res := { s.res with r0 := w64 v0, r1 := w64 v1, r2 := w64 v2 } }

/-- RES0..RES3. -/
def State.setRes (s : State) (v0 v1 v2 v3 : Nat) : State :=
  { s with res := { r0 := w64 v0, r1 := w64 v1, r2 := w64 v2, r3 := w64 v3 } }

/-- The reader forgets its window (R820): READER_ACTIVE and the optional registers. -/
def State.closeReader (s : State) : State :=
  { s with readerActive := false, pendingOp := none, pushbackInst := none, lastInst := none }

/-- The writer's window is emptied (R706, R707). -/
def State.clearWindow (s : State) : State :=
  { s with data := [], insts := [], addrs := [], wrLast := none, wrInstCount := 0, wrTargetLen := 0 }

/-- How many bytes DATA, INSTS and ADDRS hold together (R700). -/
def State.regionBytes (s : State) : Nat := s.data.length + s.insts.length + s.addrs.length

/-- A decode-side command first checks SESSION_FAILED (`60_exceptions.md` R1004). -/
def sessionGate (s : State) : Except Failure Unit := check (s.sessionFailed = false) (.plain .sessionFailed)

/-- `need(p)` and `InRead(p)` (R800). -/
def need (s : State) (p : Nat) : Except Failure Byte :=
  match s.inRead p with
  | some b => .ok b
  | none => .error (.plain .truncated)

/-- `ck32(p)` (R800): a 32-bit varint with limit IN_LEN, and the position past it. -/
def ck32 (s : State) (p : Nat) : Except Failure (Nat × Nat) :=
  match vdec32 s.inp p s.inLen with
  | .truncated => .error (.plain .truncated)
  | .malformed => .error (.stream .malformed)
  | .ok v q => .ok (v, q)

/-- `field32(p)` (R800): `ck32` with the MAX_FIELD test. -/
def field32 (s : State) (p : Nat) : Except Failure (Nat × Nat) := do
  let (v, q) ← ck32 s p
  check (v ≤ maxField) (.stream .malformed)
  return (v, q)

end Sys2Proof.Machine
end

