-- ==== Sys2Proof/Machine/Flags.lean ====
section
/-! DEFINITION. The registers that are made of bits: FLAGS (`10_state.md` R104), CTRL (R106), W_LAYOUT (R105), and STATUS's
code (`60_exceptions.md` R1001). -/

namespace Sys2Proof.Machine

/-- The code of a status (R1001). -/
def Status.code : Status → Nat
  | .ok => 0
  | .truncated => 1
  | .malformed => 2
  | .outOfRange => 3
  | .unsupported => 4
  | .illegal => 5
  | .stateError => 6
  | .sessionFailed => 7

/-- CTRL.WR_INTERLEAVED, bit 0 (R106). -/
def State.wrInterleaved (s : State) : Bool := s.ctrl.getLsbD 0

/-- CTRL.WR_CHECKSUM, bit 1. -/
def State.wrChecksum (s : State) : Bool := s.ctrl.getLsbD 1

/-- CTRL.ALLOW_VCD_TARGET, bit 2. -/
def State.allowVcdTarget (s : State) : Bool := s.ctrl.getLsbD 2

/-- A flag at a bit position. -/
def flagBit (b : Bool) (pos : Nat) : Nat := if b then 2 ^ pos else 0

/-- FLAGS (R104). Bits 7..9 show whether the optional registers hold a value; bits 63..10 read 0. -/
def State.flags (s : State) : Nat :=
  flagBit s.tableValid 0 + flagBit s.readerActive 1 + flagBit s.winActive 2 + flagBit s.decOpen 3 + flagBit s.encOpen 4
    + flagBit s.extAllowed 5 + flagBit s.sessionFailed 6 + flagBit s.pendingOp.isSome 7 + flagBit s.pushbackInst.isSome 8
    + flagBit s.lastInst.isSome 9

/-- W_LAYOUT from its two fields (R817, R818). -/
def layoutBits (interleaved hasChecksum : Bool) : BitVec 2 :=
  BitVec.ofNat 2 (flagBit interleaved 0 + flagBit hasChecksum 1)

/-- W_LAYOUT.INTERLEAVED, bit 0 (R105). -/
def WindowRegs.interleaved (w : WindowRegs) : Bool := w.layout.getLsbD 0

/-- W_LAYOUT.HAS_CHECKSUM, bit 1. -/
def WindowRegs.hasChecksum (w : WindowRegs) : Bool := w.layout.getLsbD 1

end Sys2Proof.Machine
end

