-- ==== Sys2Proof/Machine/Operands.lean ====
section
/-! DEFINITION. The operand forms (`30_encoding.md` R302) and the internal register map (`10_state.md` R105). -/

namespace Sys2Proof.Machine

/-- A narrow operand: the low `width` bits, the rest ignored (R302). -/
def narrow (v width : Nat) : Nat := v % 2 ^ width

/-- The internal registers, one constructor per assigned number (R105). -/
inductive Reg where
  | ctrl
  | dictSize
  | maxWindowSize
  | maxFileSize
  | nearSize
  | sameSize
  | maxMode
  | status
  | flags
  | inLen
  | outLen
  | decTargetTotal
  | rdPos
  | rdEnd
  | wrDataLen
  | wrInstLen
  | wrAddrLen
  | wrInstCount
  | wrTargetLen
  | wIndicator
  | wSrcLen
  | wSrcPos
  | wDeltaLen
  | wTargetSize
  | wDeltaInd
  | wDataLen
  | wInstLen
  | wAddrLen
  | wChecksum
  | wDataStart
  | wInstStart
  | wAddrStart
  | wEnd
  | wLayout
deriving DecidableEq, Repr

/-- The register a number names; `none` for an unassigned number (R105). A selector operand (R302). -/
def Reg.ofNumber (n : Nat) : Option Reg :=
  match n with
  | 0x00 => some .ctrl
  | 0x01 => some .dictSize
  | 0x02 => some .maxWindowSize
  | 0x03 => some .maxFileSize
  | 0x04 => some .nearSize
  | 0x05 => some .sameSize
  | 0x06 => some .maxMode
  | 0x08 => some .status
  | 0x09 => some .flags
  | 0x0A => some .inLen
  | 0x0B => some .outLen
  | 0x0C => some .decTargetTotal
  | 0x10 => some .rdPos
  | 0x11 => some .rdEnd
  | 0x18 => some .wrDataLen
  | 0x19 => some .wrInstLen
  | 0x1A => some .wrAddrLen
  | 0x1B => some .wrInstCount
  | 0x1C => some .wrTargetLen
  | 0x20 => some .wIndicator
  | 0x21 => some .wSrcLen
  | 0x22 => some .wSrcPos
  | 0x23 => some .wDeltaLen
  | 0x24 => some .wTargetSize
  | 0x25 => some .wDeltaInd
  | 0x26 => some .wDataLen
  | 0x27 => some .wInstLen
  | 0x28 => some .wAddrLen
  | 0x29 => some .wChecksum
  | 0x2A => some .wDataStart
  | 0x2B => some .wInstStart
  | 0x2C => some .wAddrStart
  | 0x2D => some .wEnd
  | 0x2E => some .wLayout
  | _ => none

/-- What REG_READ returns of a register (R105, R901): bits above a field's width are 0. -/
def State.regValue (s : State) : Reg → Nat
  | .ctrl => s.ctrl.toNat
  | .dictSize => s.dictSize.toNat
  | .maxWindowSize => s.maxWindowSize.toNat
  | .maxFileSize => s.maxFileSize.toNat
  | .nearSize => s.nearSize.toNat
  | .sameSize => s.sameSize.toNat
  | .maxMode => s.maxMode
  | .status => s.status.code
  | .flags => s.flags
  | .inLen => s.inLen
  | .outLen => s.outLen
  | .decTargetTotal => s.decTargetTotal.toNat
  | .rdPos => s.rdPos.toNat
  | .rdEnd => s.rdEnd.toNat
  | .wrDataLen => s.data.length
  | .wrInstLen => s.insts.length
  | .wrAddrLen => s.addrs.length
  | .wrInstCount => s.wrInstCount.toNat
  | .wrTargetLen => s.wrTargetLen.toNat
  | .wIndicator => s.w.indicator.toNat
  | .wSrcLen => s.w.srcLen.toNat
  | .wSrcPos => s.w.srcPos.toNat
  | .wDeltaLen => s.w.deltaLen.toNat
  | .wTargetSize => s.w.targetSize.toNat
  | .wDeltaInd => s.w.deltaInd.toNat
  | .wDataLen => s.w.dataLen.toNat
  | .wInstLen => s.w.instLen.toNat
  | .wAddrLen => s.w.addrLen.toNat
  | .wChecksum => s.w.checksum.toNat
  | .wDataStart => s.w.dataStart.toNat
  | .wInstStart => s.w.instStart.toNat
  | .wAddrStart => s.w.addrStart.toNat
  | .wEnd => s.w.windowEnd.toNat
  | .wLayout => s.w.layout.toNat

/-- The order of R502's checks: type, mode, size. -/
def checkInstruction (maxMode t m sz : Nat) : Except Failure Unit := do
  check (t = 1 ∨ t = 2 ∨ t = 3) (.plain .malformed)
  check (¬((t ≠ 3 ∧ m ≠ 0) ∨ (t = 3 ∧ m > maxMode))) (.plain .malformed)
  check (sz ≤ maxField) (.plain .outOfRange)

end Sys2Proof.Machine
end

