-- ==== Sys2Proof/Machine/ControlCommands.lean ====
section
/-! DEFINITION. The control commands (`45_control.md`). -/

namespace Sys2Proof.Machine

/-- NOP, code 0x00 (R900). -/
def execNop (s : State) : Result State := command (fun s => .ok s) s

/-- R901. The value is read before this command's own STATUS write. -/
def regReadBody (s : State) : Except Failure State :=
  match Reg.ofNumber s.a0 with
  | none => .error (.plain .illegal)
  | some r => .ok (s.setRes0 (s.regValue r))

/-- REG_READ, code 0x70 (R901). -/
def execRegRead (s : State) : Result State := command regReadBody s

/-- The CTRL case of R902 (R106, R107 (c), (d), (e)). -/
def writeCtrl (s : State) (new : BitVec 3) : Except Failure State := do
  check (new.getLsbD 2 ≠ s.ctrl.getLsbD 2 → s.decOpen = false) (.plain .stateError)
  check ((new.getLsbD 0 ≠ s.ctrl.getLsbD 0 ∨ new.getLsbD 1 ≠ s.ctrl.getLsbD 1) → (s.encOpen = false ∧ s.wrInstCount = 0))
    (.plain .stateError)
  return { s with ctrl := new }

/-- The DICT_SIZE case of R902 (R107 (a), (b)). -/
def writeDictSize (s : State) (v : Word) : Except Failure State := do
  check (s.decOpen = false ∧ s.encOpen = false) (.plain .stateError)
  check (v.toNat ≤ maxField) (.plain .outOfRange)
  return { s with dictSize := v }

/-- The checks of the MAX_WINDOW_SIZE and MAX_FILE_SIZE cases of R902 (R107 (a), (c), (e)), against the value held. -/
def checkLimitWrite (s : State) (old v : Word) : Except Failure Unit := do
  check (v ≠ old → s.decOpen = false) (.plain .stateError)
  check (v.toNat ≤ maxField) (.plain .outOfRange)

/-- R902. -/
def regWriteBody (s : State) : Except Failure State :=
  match Reg.ofNumber s.a0 with
  | some .ctrl => writeCtrl s (BitVec.ofNat 3 s.a1)
  | some .dictSize => writeDictSize s s.arg.r1
  | some .maxWindowSize => do
    checkLimitWrite s s.maxWindowSize s.arg.r1
    return { s with maxWindowSize := s.arg.r1 }
  | some .maxFileSize => do
    checkLimitWrite s s.maxFileSize s.arg.r1
    return { s with maxFileSize := s.arg.r1 }
  | _ => .error (.plain .illegal)

/-- REG_WRITE, code 0x71 (R902). -/
def execRegWrite (s : State) : Result State := command regWriteBody s

/-- R903. -/
def inAppendBody (s : State) : Except Failure State := do
  check (s.inLen < s.cfg.inSize) (.plain .outOfRange)
  return (s.inAppend (BitVec.ofNat 8 (narrow s.a0 8))).setRes0 (s.inLen + 1)

/-- IN_APPEND, code 0x72 (R903). -/
def execInAppend (s : State) : Result State := command inAppendBody s

/-- The reset state, with what is not the block's own: its parameters and the host (R904, R1100, R117; log 16). -/
def State.afterReset (s : State) : State :=
  { State.resetWith s.cfg with host := s.host, hostData := s.hostData, freeReads := s.freeReads }

/-- RESET, code 0x7F (R904). -/
def execReset (s : State) : Result State := command (fun s => .ok s.afterReset) s

/-- A code that is no command (R905): ILLEGAL, and nothing else changes. -/
def execIllegal (s : State) : Result State := command (fun _ => .error (.plain .illegal)) s

end Sys2Proof.Machine
end

