-- ==== Sys2Proof/Machine/ReaderCommands.lean ====
section
/-! DEFINITION. The instruction reader (`42_reader.md`). -/

namespace Sys2Proof.Machine

/-- `min(W_ADDR_START, IN_LEN)`: the reader's furthest limit (R600, R601). -/
abbrev readerLimit (s : State) : Nat := min s.w.addrStart.toNat s.inLen

/-- R600. -/
def rdStartBody (s : State) : Except Failure State := do
  sessionGate s
  check (s.winActive = true ∧ s.tableValid = true) (.plain .stateError)
  check (s.w.instStart.toNat ≤ s.a0 ∧ s.a0 ≤ s.a1 ∧ s.a1 ≤ readerLimit s) (.plain .outOfRange)
  return { s with
    rdPos := s.arg.r0, rdEnd := s.arg.r1, pendingOp := none, pushbackInst := none, lastInst := none, readerActive := true }

/-- RD_START, code 0x20 (R600). -/
def execRdStart (s : State) : Result State := command rdStartBody s

/-- R601. -/
def rdExtendBody (s : State) : Except Failure State := do
  sessionGate s
  check (s.readerActive = true) (.plain .stateError)
  check (s.rdEnd.toNat ≤ s.a0 ∧ s.a0 ≤ readerLimit s) (.plain .outOfRange)
  return { s with rdEnd := s.arg.r0 }

/-- RD_EXTEND, code 0x21 (R601). -/
def execRdExtend (s : State) : Result State := command rdExtendBody s

/-- R602. -/
def rdSeekBody (s : State) : Except Failure State := do
  sessionGate s
  check (s.readerActive = true) (.plain .stateError)
  check (s.rdPos.toNat ≤ s.a0 ∧ s.a0 ≤ s.rdEnd.toNat) (.plain .outOfRange)
  return { s with rdPos := s.arg.r0 }

/-- RD_SEEK, code 0x22 (R602). -/
def execRdSeek (s : State) : Result State := command rdSeekBody s

/-- The bytes of the stream the reader has not read: IN[RD_POS .. RD_END-1] (R111). -/
def State.unread (s : State) : List Byte := (s.inp.take s.rdEnd.toNat).drop s.rdPos.toNat

/-- What step 2 of R604 ends with. -/
inductive Scan where
  /-- A half to return, the opcode whose second half then stays pending, and the position reached. -/
  | found (half : Half) (pend : Option Byte) (pos : Nat)
  /-- The stream ran out at this position. -/
  | exhausted (pos : Nat)
deriving DecidableEq, Repr

/-- Step 2 of R604: find the next half that is not NOOP. `bytes` are the unread bytes from position `p` on. -/
def nextHalf (ct : List Host.Cell) : Option Byte → List Byte → Nat → Scan
  | some op, _, p => .found (secondHalf ct op.toNat) none p
  | none, [], p => .exhausted p
  | none, op :: rest, p =>
    let pend := if (secondHalf ct op.toNat).typ ≠ typNoop then some op else none
    let h := firstHalf ct op.toNat
    if h.typ ≠ typNoop then .found h pend (p + 1) else nextHalf ct pend rest (p + 1)

/-- Step 3 of R604: the size of a half, from the table or from the stream, and the position reached. -/
def halfSize (s : State) (h : Half) (p : Nat) : Except Failure (Nat × Nat) :=
  if h.size ≠ 0 then .ok (h.size.toNat, p)
  else
    match vdec32 s.inp p s.rdEnd.toNat with
    | .truncated => .error (.plain .truncated)
    | .malformed => .error (.stream .malformed)
    | .ok v q => if v > maxField then .error (.stream .malformed) else .ok (v, q)

/-- RES0..RES3 of an RD_GET that returns a record (R604). -/
def State.returnRecord (s : State) (r : InstRecord) (pos : Nat) : State :=
  s.setRes r.typ.toNat r.size.toNat r.mode.toNat pos

/-- R604, over the given unread bytes. -/
def rdGetOn (bytes : List Byte) (s : State) : Except Failure State := do
  sessionGate s
  check (s.readerActive = true ∧ s.tableValid = true) (.plain .stateError)
  match s.pushbackInst with
  | some r => return { s with pushbackInst := none, lastInst := some r }.returnRecord r s.rdPos.toNat
  | none =>
    match nextHalf s.ct s.pendingOp bytes s.rdPos.toNat with
    | .exhausted p => .error (.exhausted p)
    | .found h pend p =>
      let (sz, q) ← halfSize s h p
      let r : InstRecord := { typ := h.typ, size := w64 sz, mode := h.mode }
      return { s with rdPos := w64 q, pendingOp := pend, lastInst := some r }.returnRecord r q

/-- R604. -/
def rdGetBody (s : State) : Except Failure State := rdGetOn s.unread s

/-- RD_GET, code 0x23 (R604). -/
def execRdGet (s : State) : Result State := command rdGetBody s

/-- R605. -/
def rdUngetBody (s : State) : Except Failure State := do
  sessionGate s
  check (s.readerActive = true ∧ s.lastInst ≠ none ∧ s.pushbackInst = none) (.plain .stateError)
  return { s with pushbackInst := s.lastInst, lastInst := none }

/-- RD_UNGET, code 0x24 (R605). -/
def execRdUnget (s : State) : Result State := command rdUngetBody s

end Sys2Proof.Machine
end

