-- ==== Sys2Proof/Machine/OpcodeRows.lean ====
section
/-! DEFINITION. The 256 opcode rows (`30_encoding.md` R320, R321). An opcode byte runs when RD_GET reads it: the meaning of opcode
`op` is the RD_GET whose next unread opcode byte is `op` (`42_reader.md` R603, R604; log 2). What row `op` holds is read from CT. -/

namespace Sys2Proof.Machine

/-- The unread bytes with the opcode byte at RD_POS taken to be `op`; nothing when no byte is available there (R604). -/
def State.unreadFrom (s : State) (op : Byte) : List Byte :=
  match s.unread with
  | [] => []
  | _ :: rest => op :: rest

/-- The RD_GET that finds opcode byte `op` at RD_POS. -/
def readOpcode (op : Byte) (s : State) : Result State := command (rdGetOn (s.unreadFrom op)) s

def execOpRun (s : State) : Result State := readOpcode 0 s

def execOpAdd (s : State) : Result State := readOpcode 1 s

def execOpAdd1 (s : State) : Result State := readOpcode 2 s

def execOpAdd2 (s : State) : Result State := readOpcode 3 s

def execOpAdd3 (s : State) : Result State := readOpcode 4 s

def execOpAdd4 (s : State) : Result State := readOpcode 5 s

def execOpAdd5 (s : State) : Result State := readOpcode 6 s

def execOpAdd6 (s : State) : Result State := readOpcode 7 s

def execOpAdd7 (s : State) : Result State := readOpcode 8 s

def execOpAdd8 (s : State) : Result State := readOpcode 9 s

def execOpAdd9 (s : State) : Result State := readOpcode 10 s

def execOpAdd10 (s : State) : Result State := readOpcode 11 s

def execOpAdd11 (s : State) : Result State := readOpcode 12 s

def execOpAdd12 (s : State) : Result State := readOpcode 13 s

def execOpAdd13 (s : State) : Result State := readOpcode 14 s

def execOpAdd14 (s : State) : Result State := readOpcode 15 s

def execOpAdd15 (s : State) : Result State := readOpcode 16 s

def execOpAdd16 (s : State) : Result State := readOpcode 17 s

def execOpAdd17 (s : State) : Result State := readOpcode 18 s

def execOpCopyM0 (s : State) : Result State := readOpcode 19 s

def execOpCopy4M0 (s : State) : Result State := readOpcode 20 s

def execOpCopy5M0 (s : State) : Result State := readOpcode 21 s

def execOpCopy6M0 (s : State) : Result State := readOpcode 22 s

def execOpCopy7M0 (s : State) : Result State := readOpcode 23 s

def execOpCopy8M0 (s : State) : Result State := readOpcode 24 s

def execOpCopy9M0 (s : State) : Result State := readOpcode 25 s

def execOpCopy10M0 (s : State) : Result State := readOpcode 26 s

def execOpCopy11M0 (s : State) : Result State := readOpcode 27 s

def execOpCopy12M0 (s : State) : Result State := readOpcode 28 s

def execOpCopy13M0 (s : State) : Result State := readOpcode 29 s

def execOpCopy14M0 (s : State) : Result State := readOpcode 30 s

def execOpCopy15M0 (s : State) : Result State := readOpcode 31 s

def execOpCopy16M0 (s : State) : Result State := readOpcode 32 s

def execOpCopy17M0 (s : State) : Result State := readOpcode 33 s

def execOpCopy18M0 (s : State) : Result State := readOpcode 34 s

def execOpCopyM1 (s : State) : Result State := readOpcode 35 s

def execOpCopy4M1 (s : State) : Result State := readOpcode 36 s

def execOpCopy5M1 (s : State) : Result State := readOpcode 37 s

def execOpCopy6M1 (s : State) : Result State := readOpcode 38 s

def execOpCopy7M1 (s : State) : Result State := readOpcode 39 s

def execOpCopy8M1 (s : State) : Result State := readOpcode 40 s

def execOpCopy9M1 (s : State) : Result State := readOpcode 41 s

def execOpCopy10M1 (s : State) : Result State := readOpcode 42 s

def execOpCopy11M1 (s : State) : Result State := readOpcode 43 s

def execOpCopy12M1 (s : State) : Result State := readOpcode 44 s

def execOpCopy13M1 (s : State) : Result State := readOpcode 45 s

def execOpCopy14M1 (s : State) : Result State := readOpcode 46 s

def execOpCopy15M1 (s : State) : Result State := readOpcode 47 s

def execOpCopy16M1 (s : State) : Result State := readOpcode 48 s

def execOpCopy17M1 (s : State) : Result State := readOpcode 49 s

def execOpCopy18M1 (s : State) : Result State := readOpcode 50 s

def execOpCopyM2 (s : State) : Result State := readOpcode 51 s

def execOpCopy4M2 (s : State) : Result State := readOpcode 52 s

def execOpCopy5M2 (s : State) : Result State := readOpcode 53 s

def execOpCopy6M2 (s : State) : Result State := readOpcode 54 s

def execOpCopy7M2 (s : State) : Result State := readOpcode 55 s

def execOpCopy8M2 (s : State) : Result State := readOpcode 56 s

def execOpCopy9M2 (s : State) : Result State := readOpcode 57 s

def execOpCopy10M2 (s : State) : Result State := readOpcode 58 s

def execOpCopy11M2 (s : State) : Result State := readOpcode 59 s

def execOpCopy12M2 (s : State) : Result State := readOpcode 60 s

def execOpCopy13M2 (s : State) : Result State := readOpcode 61 s

def execOpCopy14M2 (s : State) : Result State := readOpcode 62 s

def execOpCopy15M2 (s : State) : Result State := readOpcode 63 s

def execOpCopy16M2 (s : State) : Result State := readOpcode 64 s

def execOpCopy17M2 (s : State) : Result State := readOpcode 65 s

def execOpCopy18M2 (s : State) : Result State := readOpcode 66 s

def execOpCopyM3 (s : State) : Result State := readOpcode 67 s

def execOpCopy4M3 (s : State) : Result State := readOpcode 68 s

def execOpCopy5M3 (s : State) : Result State := readOpcode 69 s

def execOpCopy6M3 (s : State) : Result State := readOpcode 70 s

def execOpCopy7M3 (s : State) : Result State := readOpcode 71 s

def execOpCopy8M3 (s : State) : Result State := readOpcode 72 s

def execOpCopy9M3 (s : State) : Result State := readOpcode 73 s

def execOpCopy10M3 (s : State) : Result State := readOpcode 74 s

def execOpCopy11M3 (s : State) : Result State := readOpcode 75 s

def execOpCopy12M3 (s : State) : Result State := readOpcode 76 s

def execOpCopy13M3 (s : State) : Result State := readOpcode 77 s

def execOpCopy14M3 (s : State) : Result State := readOpcode 78 s

def execOpCopy15M3 (s : State) : Result State := readOpcode 79 s

def execOpCopy16M3 (s : State) : Result State := readOpcode 80 s

def execOpCopy17M3 (s : State) : Result State := readOpcode 81 s

def execOpCopy18M3 (s : State) : Result State := readOpcode 82 s

def execOpCopyM4 (s : State) : Result State := readOpcode 83 s

def execOpCopy4M4 (s : State) : Result State := readOpcode 84 s

def execOpCopy5M4 (s : State) : Result State := readOpcode 85 s

def execOpCopy6M4 (s : State) : Result State := readOpcode 86 s

def execOpCopy7M4 (s : State) : Result State := readOpcode 87 s

def execOpCopy8M4 (s : State) : Result State := readOpcode 88 s

def execOpCopy9M4 (s : State) : Result State := readOpcode 89 s

def execOpCopy10M4 (s : State) : Result State := readOpcode 90 s

def execOpCopy11M4 (s : State) : Result State := readOpcode 91 s

def execOpCopy12M4 (s : State) : Result State := readOpcode 92 s

def execOpCopy13M4 (s : State) : Result State := readOpcode 93 s

def execOpCopy14M4 (s : State) : Result State := readOpcode 94 s

def execOpCopy15M4 (s : State) : Result State := readOpcode 95 s

def execOpCopy16M4 (s : State) : Result State := readOpcode 96 s

def execOpCopy17M4 (s : State) : Result State := readOpcode 97 s

def execOpCopy18M4 (s : State) : Result State := readOpcode 98 s

def execOpCopyM5 (s : State) : Result State := readOpcode 99 s

def execOpCopy4M5 (s : State) : Result State := readOpcode 100 s

def execOpCopy5M5 (s : State) : Result State := readOpcode 101 s

def execOpCopy6M5 (s : State) : Result State := readOpcode 102 s

def execOpCopy7M5 (s : State) : Result State := readOpcode 103 s

def execOpCopy8M5 (s : State) : Result State := readOpcode 104 s

def execOpCopy9M5 (s : State) : Result State := readOpcode 105 s

def execOpCopy10M5 (s : State) : Result State := readOpcode 106 s

def execOpCopy11M5 (s : State) : Result State := readOpcode 107 s

def execOpCopy12M5 (s : State) : Result State := readOpcode 108 s

def execOpCopy13M5 (s : State) : Result State := readOpcode 109 s

def execOpCopy14M5 (s : State) : Result State := readOpcode 110 s

def execOpCopy15M5 (s : State) : Result State := readOpcode 111 s

def execOpCopy16M5 (s : State) : Result State := readOpcode 112 s

def execOpCopy17M5 (s : State) : Result State := readOpcode 113 s

def execOpCopy18M5 (s : State) : Result State := readOpcode 114 s

def execOpCopyM6 (s : State) : Result State := readOpcode 115 s

def execOpCopy4M6 (s : State) : Result State := readOpcode 116 s

def execOpCopy5M6 (s : State) : Result State := readOpcode 117 s

def execOpCopy6M6 (s : State) : Result State := readOpcode 118 s

def execOpCopy7M6 (s : State) : Result State := readOpcode 119 s

def execOpCopy8M6 (s : State) : Result State := readOpcode 120 s

def execOpCopy9M6 (s : State) : Result State := readOpcode 121 s

def execOpCopy10M6 (s : State) : Result State := readOpcode 122 s

def execOpCopy11M6 (s : State) : Result State := readOpcode 123 s

def execOpCopy12M6 (s : State) : Result State := readOpcode 124 s

def execOpCopy13M6 (s : State) : Result State := readOpcode 125 s

def execOpCopy14M6 (s : State) : Result State := readOpcode 126 s

def execOpCopy15M6 (s : State) : Result State := readOpcode 127 s

def execOpCopy16M6 (s : State) : Result State := readOpcode 128 s

def execOpCopy17M6 (s : State) : Result State := readOpcode 129 s

def execOpCopy18M6 (s : State) : Result State := readOpcode 130 s

def execOpCopyM7 (s : State) : Result State := readOpcode 131 s

def execOpCopy4M7 (s : State) : Result State := readOpcode 132 s

def execOpCopy5M7 (s : State) : Result State := readOpcode 133 s

def execOpCopy6M7 (s : State) : Result State := readOpcode 134 s

def execOpCopy7M7 (s : State) : Result State := readOpcode 135 s

def execOpCopy8M7 (s : State) : Result State := readOpcode 136 s

def execOpCopy9M7 (s : State) : Result State := readOpcode 137 s

def execOpCopy10M7 (s : State) : Result State := readOpcode 138 s

def execOpCopy11M7 (s : State) : Result State := readOpcode 139 s

def execOpCopy12M7 (s : State) : Result State := readOpcode 140 s

def execOpCopy13M7 (s : State) : Result State := readOpcode 141 s

def execOpCopy14M7 (s : State) : Result State := readOpcode 142 s

def execOpCopy15M7 (s : State) : Result State := readOpcode 143 s

def execOpCopy16M7 (s : State) : Result State := readOpcode 144 s

def execOpCopy17M7 (s : State) : Result State := readOpcode 145 s

def execOpCopy18M7 (s : State) : Result State := readOpcode 146 s

def execOpCopyM8 (s : State) : Result State := readOpcode 147 s

def execOpCopy4M8 (s : State) : Result State := readOpcode 148 s

def execOpCopy5M8 (s : State) : Result State := readOpcode 149 s

def execOpCopy6M8 (s : State) : Result State := readOpcode 150 s

def execOpCopy7M8 (s : State) : Result State := readOpcode 151 s

def execOpCopy8M8 (s : State) : Result State := readOpcode 152 s

def execOpCopy9M8 (s : State) : Result State := readOpcode 153 s

def execOpCopy10M8 (s : State) : Result State := readOpcode 154 s

def execOpCopy11M8 (s : State) : Result State := readOpcode 155 s

def execOpCopy12M8 (s : State) : Result State := readOpcode 156 s

def execOpCopy13M8 (s : State) : Result State := readOpcode 157 s

def execOpCopy14M8 (s : State) : Result State := readOpcode 158 s

def execOpCopy15M8 (s : State) : Result State := readOpcode 159 s

def execOpCopy16M8 (s : State) : Result State := readOpcode 160 s

def execOpCopy17M8 (s : State) : Result State := readOpcode 161 s

def execOpCopy18M8 (s : State) : Result State := readOpcode 162 s

def execOpAdd1Copy4M0 (s : State) : Result State := readOpcode 163 s

def execOpAdd1Copy5M0 (s : State) : Result State := readOpcode 164 s

def execOpAdd1Copy6M0 (s : State) : Result State := readOpcode 165 s

def execOpAdd2Copy4M0 (s : State) : Result State := readOpcode 166 s

def execOpAdd2Copy5M0 (s : State) : Result State := readOpcode 167 s

def execOpAdd2Copy6M0 (s : State) : Result State := readOpcode 168 s

def execOpAdd3Copy4M0 (s : State) : Result State := readOpcode 169 s

def execOpAdd3Copy5M0 (s : State) : Result State := readOpcode 170 s

def execOpAdd3Copy6M0 (s : State) : Result State := readOpcode 171 s

def execOpAdd4Copy4M0 (s : State) : Result State := readOpcode 172 s

def execOpAdd4Copy5M0 (s : State) : Result State := readOpcode 173 s

def execOpAdd4Copy6M0 (s : State) : Result State := readOpcode 174 s

def execOpAdd1Copy4M1 (s : State) : Result State := readOpcode 175 s

def execOpAdd1Copy5M1 (s : State) : Result State := readOpcode 176 s

def execOpAdd1Copy6M1 (s : State) : Result State := readOpcode 177 s

def execOpAdd2Copy4M1 (s : State) : Result State := readOpcode 178 s

def execOpAdd2Copy5M1 (s : State) : Result State := readOpcode 179 s

def execOpAdd2Copy6M1 (s : State) : Result State := readOpcode 180 s

def execOpAdd3Copy4M1 (s : State) : Result State := readOpcode 181 s

def execOpAdd3Copy5M1 (s : State) : Result State := readOpcode 182 s

def execOpAdd3Copy6M1 (s : State) : Result State := readOpcode 183 s

def execOpAdd4Copy4M1 (s : State) : Result State := readOpcode 184 s

def execOpAdd4Copy5M1 (s : State) : Result State := readOpcode 185 s

def execOpAdd4Copy6M1 (s : State) : Result State := readOpcode 186 s

def execOpAdd1Copy4M2 (s : State) : Result State := readOpcode 187 s

def execOpAdd1Copy5M2 (s : State) : Result State := readOpcode 188 s

def execOpAdd1Copy6M2 (s : State) : Result State := readOpcode 189 s

def execOpAdd2Copy4M2 (s : State) : Result State := readOpcode 190 s

def execOpAdd2Copy5M2 (s : State) : Result State := readOpcode 191 s

def execOpAdd2Copy6M2 (s : State) : Result State := readOpcode 192 s

def execOpAdd3Copy4M2 (s : State) : Result State := readOpcode 193 s

def execOpAdd3Copy5M2 (s : State) : Result State := readOpcode 194 s

def execOpAdd3Copy6M2 (s : State) : Result State := readOpcode 195 s

def execOpAdd4Copy4M2 (s : State) : Result State := readOpcode 196 s

def execOpAdd4Copy5M2 (s : State) : Result State := readOpcode 197 s

def execOpAdd4Copy6M2 (s : State) : Result State := readOpcode 198 s

def execOpAdd1Copy4M3 (s : State) : Result State := readOpcode 199 s

def execOpAdd1Copy5M3 (s : State) : Result State := readOpcode 200 s

def execOpAdd1Copy6M3 (s : State) : Result State := readOpcode 201 s

def execOpAdd2Copy4M3 (s : State) : Result State := readOpcode 202 s

def execOpAdd2Copy5M3 (s : State) : Result State := readOpcode 203 s

def execOpAdd2Copy6M3 (s : State) : Result State := readOpcode 204 s

def execOpAdd3Copy4M3 (s : State) : Result State := readOpcode 205 s

def execOpAdd3Copy5M3 (s : State) : Result State := readOpcode 206 s

def execOpAdd3Copy6M3 (s : State) : Result State := readOpcode 207 s

def execOpAdd4Copy4M3 (s : State) : Result State := readOpcode 208 s

def execOpAdd4Copy5M3 (s : State) : Result State := readOpcode 209 s

def execOpAdd4Copy6M3 (s : State) : Result State := readOpcode 210 s

def execOpAdd1Copy4M4 (s : State) : Result State := readOpcode 211 s

def execOpAdd1Copy5M4 (s : State) : Result State := readOpcode 212 s

def execOpAdd1Copy6M4 (s : State) : Result State := readOpcode 213 s

def execOpAdd2Copy4M4 (s : State) : Result State := readOpcode 214 s

def execOpAdd2Copy5M4 (s : State) : Result State := readOpcode 215 s

def execOpAdd2Copy6M4 (s : State) : Result State := readOpcode 216 s

def execOpAdd3Copy4M4 (s : State) : Result State := readOpcode 217 s

def execOpAdd3Copy5M4 (s : State) : Result State := readOpcode 218 s

def execOpAdd3Copy6M4 (s : State) : Result State := readOpcode 219 s

def execOpAdd4Copy4M4 (s : State) : Result State := readOpcode 220 s

def execOpAdd4Copy5M4 (s : State) : Result State := readOpcode 221 s

def execOpAdd4Copy6M4 (s : State) : Result State := readOpcode 222 s

def execOpAdd1Copy4M5 (s : State) : Result State := readOpcode 223 s

def execOpAdd1Copy5M5 (s : State) : Result State := readOpcode 224 s

def execOpAdd1Copy6M5 (s : State) : Result State := readOpcode 225 s

def execOpAdd2Copy4M5 (s : State) : Result State := readOpcode 226 s

def execOpAdd2Copy5M5 (s : State) : Result State := readOpcode 227 s

def execOpAdd2Copy6M5 (s : State) : Result State := readOpcode 228 s

def execOpAdd3Copy4M5 (s : State) : Result State := readOpcode 229 s

def execOpAdd3Copy5M5 (s : State) : Result State := readOpcode 230 s

def execOpAdd3Copy6M5 (s : State) : Result State := readOpcode 231 s

def execOpAdd4Copy4M5 (s : State) : Result State := readOpcode 232 s

def execOpAdd4Copy5M5 (s : State) : Result State := readOpcode 233 s

def execOpAdd4Copy6M5 (s : State) : Result State := readOpcode 234 s

def execOpAdd1Copy4M6 (s : State) : Result State := readOpcode 235 s

def execOpAdd2Copy4M6 (s : State) : Result State := readOpcode 236 s

def execOpAdd3Copy4M6 (s : State) : Result State := readOpcode 237 s

def execOpAdd4Copy4M6 (s : State) : Result State := readOpcode 238 s

def execOpAdd1Copy4M7 (s : State) : Result State := readOpcode 239 s

def execOpAdd2Copy4M7 (s : State) : Result State := readOpcode 240 s

def execOpAdd3Copy4M7 (s : State) : Result State := readOpcode 241 s

def execOpAdd4Copy4M7 (s : State) : Result State := readOpcode 242 s

def execOpAdd1Copy4M8 (s : State) : Result State := readOpcode 243 s

def execOpAdd2Copy4M8 (s : State) : Result State := readOpcode 244 s

def execOpAdd3Copy4M8 (s : State) : Result State := readOpcode 245 s

def execOpAdd4Copy4M8 (s : State) : Result State := readOpcode 246 s

def execOpCopy4M0Add1 (s : State) : Result State := readOpcode 247 s

def execOpCopy4M1Add1 (s : State) : Result State := readOpcode 248 s

def execOpCopy4M2Add1 (s : State) : Result State := readOpcode 249 s

def execOpCopy4M3Add1 (s : State) : Result State := readOpcode 250 s

def execOpCopy4M4Add1 (s : State) : Result State := readOpcode 251 s

def execOpCopy4M5Add1 (s : State) : Result State := readOpcode 252 s

def execOpCopy4M6Add1 (s : State) : Result State := readOpcode 253 s

def execOpCopy4M7Add1 (s : State) : Result State := readOpcode 254 s

def execOpCopy4M8Add1 (s : State) : Result State := readOpcode 255 s

end Sys2Proof.Machine
end

