-- ==== Sys2Proof/Machine/ParserCommands.lean ====
section
/-! DEFINITION. The file-header parser, the window-header parser and the end of a window (`44_window_parser.md`). -/

namespace Sys2Proof.Machine

/-- A byte of the file header that must have one value (R801). -/
def expectByte (s : State) (p : Nat) (e : Byte) : Except Failure Unit := do
  let b ← need s p
  check (b = e) (.stream .malformed)

/-- What FH_PARSE reads (R801): the position past the header, whether a custom table follows, L - 2, and near | same << 8. -/
structure FileHeader where
  next : Nat
  extended : Bool
  custom : Bool
  tableLen : Nat
  caches : Nat
deriving DecidableEq, Repr

/-- The custom-table fields of the file header, from position `p` (R330, R801). -/
def customFields (s : State) (p : Nat) : Except Failure (Nat × Nat × Nat) := do
  let (len, p) ← field32 s p
  check (2 ≤ len) (.stream .malformed)
  let near ← need s p
  let same ← need s (p + 1)
  check (near.toNat + same.toNat ≤ cacheLimit) (.stream .malformed)
  return (p + 2, len - 2, near.toNat + 256 * same.toNat)

/-- The pseudocode of R801 from position `p`. -/
def parseFileHeader (s : State) (p : Nat) : Except Failure FileHeader := do
  expectByte s p magic1
  expectByte s (p + 1) magic2
  expectByte s (p + 2) magic3
  let ver ← need s (p + 3)
  check (ver = versionStandard ∨ ver = versionExtended) (.stream .unsupported)
  let hi ← need s (p + 4)
  check (hi.toNat / 4 = 0) (.stream .malformed)
  check (hi.getLsbD 0 = false) (.stream .unsupported)
  if hi.getLsbD 1 then
    let (q, n, cs) ← customFields s (p + 5)
    return { next := q, extended := ver == versionExtended, custom := true, tableLen := n, caches := cs }
  else
    return { next := p + 5, extended := ver == versionExtended, custom := false, tableLen := 0, caches := 0 }

/-- R801. -/
def fhParseBody (s : State) : Except Failure State := do
  sessionGate s
  check (s.decOpen = false) (.plain .stateError)
  check (s.a0 ≤ s.inLen) (.plain .outOfRange)
  let h ← parseFileHeader s s.a0
  return { s with decOpen := true, extAllowed := h.extended }.setRes h.next h.custom.toNat h.tableLen h.caches

/-- FH_PARSE, code 0x40 (R801). -/
def execFhParse (s : State) : Result State := command fhParseBody s

/-- The Win_Indicator checks (R811). -/
def checkIndicator (s : State) (wi : Byte) : Except Failure Unit := do
  check (wi.toNat / 8 = 0) (.stream .malformed)
  check (¬(wi.getLsbD 0 = true ∧ wi.getLsbD 1 = true)) (.stream .malformed)
  check (wi.getLsbD 2 = true → s.extAllowed = true) (.stream .malformed)
  check (wi.getLsbD 1 = true → s.allowVcdTarget = true) (.stream .unsupported)

/-- Fields 2 and 3 and the source-segment check (R340, R812): length, position, and the position past them. -/
def sourceSegment (s : State) (wi : Byte) (p : Nat) : Except Failure (Nat × Nat × Nat) :=
  if wi.getLsbD 0 || wi.getLsbD 1 then do
    let (sl, p) ← field32 s p
    let (sp, p) ← field32 s p
    check (sl + sp ≤ maxField) (.stream .malformed)
    check (sl + sp ≤ (if wi.getLsbD 0 then s.dictSize.toNat else s.decTargetTotal.toNat)) (.stream .outOfRange)
    return (sl, sp, p)
  else return (0, 0, p)

/-- The target-size limits (R813). -/
def checkTargetSize (s : State) (tws : Nat) : Except Failure Unit := do
  check (tws ≤ s.maxWindowSize.toNat) (.stream .outOfRange)
  check (s.decTargetTotal.toNat + tws ≤ s.maxFileSize.toNat) (.stream .outOfRange)

/-- The Delta_Indicator checks (R814). -/
def checkDeltaIndicator (di : Byte) : Except Failure Unit := do
  check (di.toNat / 8 = 0) (.stream .malformed)
  check (di.toNat % 8 = 0) (.stream .unsupported)

/-- The checksum field, present iff Win_Indicator bit 2 is 1 (R815): its value and the position past it. -/
def checksumField (s : State) (wi : Byte) (p : Nat) : Except Failure (Nat × Nat) :=
  if wi.getLsbD 2 then ck32 s p else .ok (0, p)

/-- The W_ registers of a parsed header, with H = `q1` (R817, R818). -/
def windowRegs (s : State) (wi : Byte) (sl sp dlen tws : Nat) (di : Byte) (dl il al ck q1 : Nat) : WindowRegs :=
  { indicator := w64 wi.toNat, srcLen := w64 sl, srcPos := w64 sp, deltaLen := w64 dlen, targetSize := w64 tws
    deltaInd := w64 di.toNat, dataLen := w64 dl, instLen := w64 il, addrLen := w64 al, checksum := w64 ck
    dataStart := w64 q1, instStart := w64 (q1 + dl), addrStart := w64 (q1 + dl + il), windowEnd := w64 (q1 + dl + il + al)
    layout := layoutBits (s.extAllowed && dl == 0 && al == 0) (wi.getLsbD 2) }

/-- The pseudocode of R810 from position `p`. -/
def parseWindowHeader (s : State) (p : Nat) : Except Failure WindowRegs := do
  let wi ← need s p
  checkIndicator s wi
  let (sl, sp, p) ← sourceSegment s wi (p + 1)
  let (dlen, q0) ← field32 s p
  let (tws, p) ← field32 s q0
  checkTargetSize s tws
  let di ← need s p
  checkDeltaIndicator di
  let (dl, p) ← field32 s (p + 1)
  let (il, p) ← field32 s p
  let (al, p) ← field32 s p
  let (ck, q1) ← checksumField s wi p
  check ((q1 - q0) + dl + il + al = dlen) (.stream .malformed)
  return windowRegs s wi sl sp dlen tws di dl il al ck q1

/-- R810. -/
def whParseBody (s : State) : Except Failure State := do
  sessionGate s
  check (s.decOpen = true ∧ s.winActive = false) (.plain .stateError)
  check (s.a0 ≤ s.inLen) (.plain .outOfRange)
  let w ← parseWindowHeader s s.a0
  return { s with w := w, winActive := true }.setRes01 w.dataStart.toNat w.windowEnd.toNat

/-- WH_PARSE, code 0x41 (R810). -/
def execWhParse (s : State) : Result State := command whParseBody s

/-- The reader has consumed its section exactly (R820). -/
abbrev consumedExactly (s : State) : Prop :=
  s.rdPos = s.w.addrStart ∧ s.pendingOp = none ∧ s.pushbackInst = none

/-- R820. -/
def winEndBody (s : State) : Except Failure State := do
  sessionGate s
  check (s.winActive = true) (.plain .stateError)
  check (s.readerActive = true ∨ s.w.instLen = 0) (.plain .stateError)
  check (s.w.windowEnd.toNat ≤ s.inLen) (.plain .truncated)
  check (s.readerActive = true → consumedExactly s) (.stream .malformed)
  check (s.arg.r0 = s.w.targetSize) (.stream .malformed)
  return { s with
    decTargetTotal := w64 (s.decTargetTotal.toNat + s.w.targetSize.toNat)
    winActive := false }.closeReader.setRes0 s.w.windowEnd.toNat

/-- WIN_END, code 0x42 (R820). -/
def execWinEnd (s : State) : Result State := command winEndBody s

end Sys2Proof.Machine
end

