-- ==== Sys2Proof/Machine/TableCommands.lean ====
section
/-! DEFINITION. The code-table commands and the two lookups (`41_codetable.md` sections 2 and 3). -/

namespace Sys2Proof.Machine

/-- Mutation refusal (R515). -/
def ctMutable (s : State) : Except Failure Unit :=
  check (s.readerActive = false ∧ s.wrInstCount = 0) (.plain .stateError)

/-- R510. -/
def ctLoadDefaultBody (s : State) : Except Failure State := do
  ctMutable s
  let fst := buildFirst defaultCt
  return { s with
    ct := defaultCt, nearSize := w64 defaultNear, sameSize := w64 defaultSame, first := fst,
    second := buildSecond defaultCt fst, tableValid := true }

/-- CT_LOAD_DEFAULT, code 0x10 (R510). -/
def execCtLoadDefault (s : State) : Result State := command ctLoadDefaultBody s

/-- R511. -/
def ctSetCacheBody (s : State) : Except Failure State := do
  ctMutable s
  check (s.a0 ≤ cacheLimit ∧ s.a1 ≤ cacheLimit ∧ s.a0 + s.a1 ≤ cacheLimit) (.plain .outOfRange)
  return { s with nearSize := s.arg.r0, sameSize := s.arg.r1, tableValid := false }.setRes0 (1 + s.a0 + s.a1)

/-- CT_SET_CACHE, code 0x11 (R511). -/
def execCtSetCache (s : State) : Result State := command ctSetCacheBody s

/-- R512. -/
def ctWriteBody (s : State) : Except Failure State := do
  ctMutable s
  check (s.a0 ≤ 5) (.plain .illegal)
  check (s.a1 ≤ 255 ∧ s.a2 ≤ 255) (.plain .outOfRange)
  return { s with ct := ctSet s.ct s.a0 s.a1 (BitVec.ofNat 8 s.a2), tableValid := false }

/-- CT_WRITE, code 0x12 (R512). -/
def execCtWrite (s : State) : Result State := command ctWriteBody s

/-- R513. -/
def ctReadBody (s : State) : Except Failure State := do
  check (s.a0 ≤ 5) (.plain .illegal)
  check (s.a1 ≤ 255) (.plain .outOfRange)
  return s.setRes0 (ctByte s.ct s.a0 s.a1).toNat

/-- CT_READ, code 0x13 (R513). -/
def execCtRead (s : State) : Result State := command ctReadBody s

/-- R514. -/
def ctCommitBody (s : State) : Except Failure State := do
  check (validate s.ct s.maxMode = true) (.plain .malformed)
  let fst := buildFirst s.ct
  return { s with first := fst, second := buildSecond s.ct fst, tableValid := true }

/-- CT_COMMIT, code 0x14 (R514). -/
def execCtCommit (s : State) : Result State := command ctCommitBody s

/-- The opcode `firstLookup` gives. It is never none while TABLE_VALID = 1 (R506); in a state no run reaches, where it is, the
map is treated as an uncommitted one (log 7). -/
def needOpcode (o : Option Byte) : Except Failure Byte :=
  match o with
  | some op => .ok op
  | none => .error (.plain .stateError)

/-- 1 when the table size is 0, so that the size must follow as a varint (R506). -/
def sizeFollows (h : Half) : Nat := if h.size = 0 then 1 else 0

/-- R520. -/
def mapFirstBody (s : State) : Except Failure State := do
  check (s.tableValid = true) (.plain .stateError)
  checkInstruction s.maxMode s.a0 s.a1 s.a2
  let o ← needOpcode (firstLookup s.first (instIdx (BitVec.ofNat 8 s.a0) s.a1) s.a2)
  return s.setRes01 o.toNat (sizeFollows (firstHalf s.ct o.toNat))

/-- MAP_FIRST, code 0x18 (R520). -/
def execMapFirst (s : State) : Result State := command mapFirstBody s

/-- R521. -/
def mapSecondBody (s : State) : Except Failure State := do
  check (s.tableValid = true) (.plain .stateError)
  check (s.a0 ≤ 255) (.plain .outOfRange)
  checkInstruction s.maxMode s.a1 s.a2 s.a3
  match secondLookup s.second (BitVec.ofNat 8 s.a0) (instIdx (BitVec.ofNat 8 s.a1) s.a2) s.a3 with
  | none => return s.setRes012 0 0 0
  | some c => return s.setRes012 c.toNat (sizeFollows (secondHalf s.ct c.toNat)) 1

/-- MAP_SECOND, code 0x19 (R521). -/
def execMapSecond (s : State) : Result State := command mapSecondBody s

end Sys2Proof.Machine
end

