-- ==== Sys2Proof/Machine/VarintCommands.lean ====
section
/-! DEFINITION. The varint commands (`40_varint.md` section 2). -/

namespace Sys2Proof.Machine

/-- R410. -/
def venc32Body (s : State) : Except Failure State := do
  let bytes := venc (narrow s.a0 32)
  return (s.outAppend bytes).setRes0 bytes.length

/-- VENC32, code 0x01 (R410). -/
def execVenc32 (s : State) : Result State := command venc32Body s

/-- R411. -/
def venc64Body (s : State) : Except Failure State := do
  check (s.a0 ≤ varint64Max) (.plain .outOfRange)
  let bytes := venc s.a0
  return (s.outAppend bytes).setRes0 bytes.length

/-- VENC64, code 0x02 (R411). -/
def execVenc64 (s : State) : Result State := command venc64Body s

/-- R412 and R413 share their pseudocode but for the varint function. A failure is never a stream-content error (R1003). -/
def vdecBody (dec : List Byte → Nat → Nat → VarintOutcome) (s : State) : Except Failure State := do
  check (s.a0 ≤ s.a1 ∧ s.a1 ≤ s.inLen) (.plain .outOfRange)
  match dec s.inp s.a0 s.a1 with
  | .truncated => .error (.plain .truncated)
  | .malformed => .error (.plain .malformed)
  | .ok val q => return s.setRes01 val q

/-- VDEC32, code 0x03 (R412). -/
def execVdec32 (s : State) : Result State := command (vdecBody vdec32) s

/-- VDEC64, code 0x04 (R413). -/
def execVdec64 (s : State) : Result State := command (vdecBody vdec64) s

end Sys2Proof.Machine
end

