-- ==== Sys2Proof/Machine/WriterCommands.lean ====
section
/-! DEFINITION. The window writer and the file-header writer (`43_window_writer.md`). -/

namespace Sys2Proof.Machine

/-- Checks 1 and 2 of R700. -/
def writerGate (s : State) : Except Failure Unit := do
  check (s.encOpen = true) (.plain .stateError)
  check (s.tableValid = true) (.plain .stateError)

/-- What `emit` leaves: INSTS and WR_LAST. -/
structure Emitted where
  insts : List Byte
  last : Option Nat
deriving DecidableEq, Repr

/-- The size varint of a half, when its table size is 0 (R702). -/
def sizeBytes (h : Half) (sz : Nat) : List Byte := if h.size = 0 then venc sz else []

/-- The opcode at WR_LAST and the dual opcode it can be rewritten to, if any (R702). A position outside INSTS, which no run
reaches, pairs with nothing (log 8). -/
def pairing (s : State) (k sz : Nat) : Option (Nat × Byte) :=
  match s.wrLast with
  | none => none
  | some pos =>
    match s.insts[pos]? with
    | none => none
    | some f => (secondLookup s.second f k sz).map (fun c => (pos, c))

/-- `emit(t, s, m)` (R702). -/
def emit (s : State) (typ : Byte) (sz mode : Nat) : Except Failure Emitted := do
  let k := instIdx typ mode
  match pairing s k sz with
  | some (pos, c) =>
    return { insts := s.insts.set pos c ++ sizeBytes (secondHalf s.ct c.toNat) sz, last := none }
  | none =>
    let o ← needOpcode (firstLookup s.first k sz)
    return { insts := s.insts ++ [o] ++ sizeBytes (firstHalf s.ct o.toNat) sz, last := some s.insts.length }

/-- Where a payload goes (R701): to its own region, or to INSTS when WR_INTERLEAVED = 1. -/
inductive Payload where
  | toData (bytes : List Byte)
  | toAddrs (bytes : List Byte)
deriving DecidableEq, Repr

/-- `dest(DATA)` and `dest(ADDRS)` (R701). -/
def State.appendPayload (s : State) (p : Payload) : State :=
  match p with
  | .toData bytes => if s.wrInterleaved then { s with insts := s.insts ++ bytes } else { s with data := s.data ++ bytes }
  | .toAddrs bytes => if s.wrInterleaved then { s with insts := s.insts ++ bytes } else { s with addrs := s.addrs ++ bytes }

/-- Checks 4 and 5 of R700 and the commit shared by WR_ADD, WR_RUN and WR_COPY. -/
def addInstruction (s : State) (typ : Byte) (sz mode : Nat) (p : Payload) : Except Failure State := do
  check (s.wrTargetLen.toNat + sz ≤ maxField) (.plain .outOfRange)
  let e ← emit s typ sz mode
  let t := { s with insts := e.insts, wrLast := e.last }.appendPayload p
  check (t.regionBytes ≤ s.cfg.wrCapacity) (.plain .outOfRange)
  return { t with wrInstCount := s.wrInstCount + 1, wrTargetLen := w64 (s.wrTargetLen.toNat + sz) }

/-- R703. -/
def wrAddBody (s : State) : Except Failure State := do
  writerGate s
  check (s.a0 + s.a1 ≤ s.inLen) (.plain .outOfRange)
  addInstruction s typAdd s.a1 0 (.toData ((s.inp.drop s.a0).take s.a1))

/-- WR_ADD, code 0x30 (R703). -/
def execWrAdd (s : State) : Result State := command wrAddBody s

/-- R705. -/
def wrRunBody (s : State) : Except Failure State := do
  writerGate s
  check (s.a0 ≤ 255) (.plain .outOfRange)
  check (s.a1 ≤ maxField) (.plain .outOfRange)
  addInstruction s typRun s.a1 0 (.toData [BitVec.ofNat 8 s.a0])

/-- WR_RUN, code 0x31 (R705). -/
def execWrRun (s : State) : Result State := command wrRunBody s

/-- A SAME mode (`00_scope.md` R7). -/
abbrev isSameMode (s : State) (m : Nat) : Prop := 2 + s.nearSize.toNat ≤ m

/-- The address bytes of a COPY: one raw byte for a SAME mode, else a varint (R344, R704). -/
def addressBytes (s : State) (mode addr : Nat) : List Byte :=
  if isSameMode s mode then [BitVec.ofNat 8 addr] else venc addr

/-- R704. -/
def wrCopyBody (s : State) : Except Failure State := do
  writerGate s
  check (s.a1 ≤ s.maxMode) (.plain .malformed)
  check (s.a0 ≤ maxField) (.plain .outOfRange)
  check (s.a2 ≤ (if isSameMode s s.a1 then 255 else maxField)) (.plain .outOfRange)
  addInstruction s typCopy s.a0 s.a1 (.toAddrs (addressBytes s s.a1 s.a2))

/-- WR_COPY, code 0x32 (R704). -/
def execWrCopy (s : State) : Result State := command wrCopyBody s

/-- Fields 5 to 13 of the window (R340), as R706 forms them. -/
def windowBody (s : State) (checksum : Nat) : List Byte :=
  venc s.wrTargetLen.toNat ++ [0] ++ venc s.data.length ++ venc s.insts.length ++ venc s.addrs.length
    ++ (if s.wrChecksum then venc checksum else []) ++ s.data ++ s.insts ++ s.addrs

/-- The whole window (R340, R706). -/
def windowBytes (s : State) (flags srcLen srcPos checksum : Nat) : List Byte :=
  let body := windowBody s checksum
  [BitVec.ofNat 8 (flags + (if s.wrChecksum then 4 else 0))] ++ (if flags ≠ 0 then venc srcLen ++ venc srcPos else [])
    ++ venc body.length ++ body

/-- R706. -/
def wrOutputBody (s : State) : Except Failure State := do
  check (s.encOpen = true) (.plain .stateError)
  check (s.a0 < 3) (.plain .malformed)
  check (s.a0 ≠ 0 → s.a1 ≤ maxField ∧ s.a2 ≤ maxField ∧ s.a1 + s.a2 ≤ maxField) (.plain .outOfRange)
  check (s.wrChecksum = true → s.a3 ≤ varint32Max) (.plain .outOfRange)
  if s.wrInstCount = 0 then return s.setRes0 0
  else
    check ((windowBody s s.a3).length ≤ maxField) (.plain .outOfRange)
    let win := windowBytes s s.a0 s.a1 s.a2 s.a3
    return ((s.outAppend win).clearWindow).setRes0 win.length

/-- WR_OUTPUT, code 0x33 (R706). -/
def execWrOutput (s : State) : Result State := command wrOutputBody s

/-- WR_DISCARD, code 0x34 (R707). -/
def execWrDiscard (s : State) : Result State := command (fun s => .ok s.clearWindow) s

/-- The header bytes FH_WRITE appends (R330, R710). -/
def fileHeaderBytes (s : State) (custom : Bool) (n : Nat) : List Byte :=
  let ver := if s.wrInterleaved || s.wrChecksum then versionExtended else versionStandard
  if custom then
    [magic1, magic2, magic3, ver, 0x02] ++ venc (n + 2)
      ++ [BitVec.ofNat 8 s.nearSize.toNat, BitVec.ofNat 8 s.sameSize.toNat]
  else [magic1, magic2, magic3, ver, 0x00]

/-- R710. -/
def fhWriteBody (s : State) : Except Failure State := do
  check (s.encOpen = false) (.plain .stateError)
  check (s.a0 ≤ 1) (.plain .illegal)
  check (s.a0 = 1 → s.tableValid = true) (.plain .stateError)
  check (s.a0 = 1 → s.a1 ≤ maxField - 2) (.plain .outOfRange)
  let h := fileHeaderBytes s (s.a0 == 1) s.a1
  return { s.outAppend h with encOpen := true }.setRes0 h.length

/-- FH_WRITE, code 0x35 (R710). -/
def execFhWrite (s : State) : Result State := command fhWriteBody s

end Sys2Proof.Machine
end

