-- ==== Sys2Proof/Machine/Dispatch.lean ====
section
/-! DEFINITION. Which meaning each instruction has: one arm per row of `spec/opcode_table.json`. -/

namespace Sys2Proof.Machine

def exec (i : Instr) (s : State) : Host.Outcome State Fault Refusal :=
  match i with
  | .nop => Sys2Proof.Machine.execNop s
  | .venc32 => Sys2Proof.Machine.execVenc32 s
  | .venc64 => Sys2Proof.Machine.execVenc64 s
  | .vdec32 => Sys2Proof.Machine.execVdec32 s
  | .vdec64 => Sys2Proof.Machine.execVdec64 s
  | .ctLoadDefault => Sys2Proof.Machine.execCtLoadDefault s
  | .ctSetCache => Sys2Proof.Machine.execCtSetCache s
  | .ctWrite => Sys2Proof.Machine.execCtWrite s
  | .ctRead => Sys2Proof.Machine.execCtRead s
  | .ctCommit => Sys2Proof.Machine.execCtCommit s
  | .mapFirst => Sys2Proof.Machine.execMapFirst s
  | .mapSecond => Sys2Proof.Machine.execMapSecond s
  | .rdStart => Sys2Proof.Machine.execRdStart s
  | .rdExtend => Sys2Proof.Machine.execRdExtend s
  | .rdSeek => Sys2Proof.Machine.execRdSeek s
  | .rdGet => Sys2Proof.Machine.execRdGet s
  | .rdUnget => Sys2Proof.Machine.execRdUnget s
  | .wrAdd => Sys2Proof.Machine.execWrAdd s
  | .wrRun => Sys2Proof.Machine.execWrRun s
  | .wrCopy => Sys2Proof.Machine.execWrCopy s
  | .wrOutput => Sys2Proof.Machine.execWrOutput s
  | .wrDiscard => Sys2Proof.Machine.execWrDiscard s
  | .fhWrite => Sys2Proof.Machine.execFhWrite s
  | .fhParse => Sys2Proof.Machine.execFhParse s
  | .whParse => Sys2Proof.Machine.execWhParse s
  | .winEnd => Sys2Proof.Machine.execWinEnd s
  | .regRead => Sys2Proof.Machine.execRegRead s
  | .regWrite => Sys2Proof.Machine.execRegWrite s
  | .inAppend => Sys2Proof.Machine.execInAppend s
  | .reset => Sys2Proof.Machine.execReset s
  | .opRun => Sys2Proof.Machine.execOpRun s
  | .opAdd => Sys2Proof.Machine.execOpAdd s
  | .opAdd1 => Sys2Proof.Machine.execOpAdd1 s
  | .opAdd2 => Sys2Proof.Machine.execOpAdd2 s
  | .opAdd3 => Sys2Proof.Machine.execOpAdd3 s
  | .opAdd4 => Sys2Proof.Machine.execOpAdd4 s
  | .opAdd5 => Sys2Proof.Machine.execOpAdd5 s
  | .opAdd6 => Sys2Proof.Machine.execOpAdd6 s
  | .opAdd7 => Sys2Proof.Machine.execOpAdd7 s
  | .opAdd8 => Sys2Proof.Machine.execOpAdd8 s
  | .opAdd9 => Sys2Proof.Machine.execOpAdd9 s
  | .opAdd10 => Sys2Proof.Machine.execOpAdd10 s
  | .opAdd11 => Sys2Proof.Machine.execOpAdd11 s
  | .opAdd12 => Sys2Proof.Machine.execOpAdd12 s
  | .opAdd13 => Sys2Proof.Machine.execOpAdd13 s
  | .opAdd14 => Sys2Proof.Machine.execOpAdd14 s
  | .opAdd15 => Sys2Proof.Machine.execOpAdd15 s
  | .opAdd16 => Sys2Proof.Machine.execOpAdd16 s
  | .opAdd17 => Sys2Proof.Machine.execOpAdd17 s
  | .opCopyM0 => Sys2Proof.Machine.execOpCopyM0 s
  | .opCopy4M0 => Sys2Proof.Machine.execOpCopy4M0 s
  | .opCopy5M0 => Sys2Proof.Machine.execOpCopy5M0 s
  | .opCopy6M0 => Sys2Proof.Machine.execOpCopy6M0 s
  | .opCopy7M0 => Sys2Proof.Machine.execOpCopy7M0 s
  | .opCopy8M0 => Sys2Proof.Machine.execOpCopy8M0 s
  | .opCopy9M0 => Sys2Proof.Machine.execOpCopy9M0 s
  | .opCopy10M0 => Sys2Proof.Machine.execOpCopy10M0 s
  | .opCopy11M0 => Sys2Proof.Machine.execOpCopy11M0 s
  | .opCopy12M0 => Sys2Proof.Machine.execOpCopy12M0 s
  | .opCopy13M0 => Sys2Proof.Machine.execOpCopy13M0 s
  | .opCopy14M0 => Sys2Proof.Machine.execOpCopy14M0 s
  | .opCopy15M0 => Sys2Proof.Machine.execOpCopy15M0 s
  | .opCopy16M0 => Sys2Proof.Machine.execOpCopy16M0 s
  | .opCopy17M0 => Sys2Proof.Machine.execOpCopy17M0 s
  | .opCopy18M0 => Sys2Proof.Machine.execOpCopy18M0 s
  | .opCopyM1 => Sys2Proof.Machine.execOpCopyM1 s
  | .opCopy4M1 => Sys2Proof.Machine.execOpCopy4M1 s
  | .opCopy5M1 => Sys2Proof.Machine.execOpCopy5M1 s
  | .opCopy6M1 => Sys2Proof.Machine.execOpCopy6M1 s
  | .opCopy7M1 => Sys2Proof.Machine.execOpCopy7M1 s
  | .opCopy8M1 => Sys2Proof.Machine.execOpCopy8M1 s
  | .opCopy9M1 => Sys2Proof.Machine.execOpCopy9M1 s
  | .opCopy10M1 => Sys2Proof.Machine.execOpCopy10M1 s
  | .opCopy11M1 => Sys2Proof.Machine.execOpCopy11M1 s
  | .opCopy12M1 => Sys2Proof.Machine.execOpCopy12M1 s
  | .opCopy13M1 => Sys2Proof.Machine.execOpCopy13M1 s
  | .opCopy14M1 => Sys2Proof.Machine.execOpCopy14M1 s
  | .opCopy15M1 => Sys2Proof.Machine.execOpCopy15M1 s
  | .opCopy16M1 => Sys2Proof.Machine.execOpCopy16M1 s
  | .opCopy17M1 => Sys2Proof.Machine.execOpCopy17M1 s
  | .opCopy18M1 => Sys2Proof.Machine.execOpCopy18M1 s
  | .opCopyM2 => Sys2Proof.Machine.execOpCopyM2 s
  | .opCopy4M2 => Sys2Proof.Machine.execOpCopy4M2 s
  | .opCopy5M2 => Sys2Proof.Machine.execOpCopy5M2 s
  | .opCopy6M2 => Sys2Proof.Machine.execOpCopy6M2 s
  | .opCopy7M2 => Sys2Proof.Machine.execOpCopy7M2 s
  | .opCopy8M2 => Sys2Proof.Machine.execOpCopy8M2 s
  | .opCopy9M2 => Sys2Proof.Machine.execOpCopy9M2 s
  | .opCopy10M2 => Sys2Proof.Machine.execOpCopy10M2 s
  | .opCopy11M2 => Sys2Proof.Machine.execOpCopy11M2 s
  | .opCopy12M2 => Sys2Proof.Machine.execOpCopy12M2 s
  | .opCopy13M2 => Sys2Proof.Machine.execOpCopy13M2 s
  | .opCopy14M2 => Sys2Proof.Machine.execOpCopy14M2 s
  | .opCopy15M2 => Sys2Proof.Machine.execOpCopy15M2 s
  | .opCopy16M2 => Sys2Proof.Machine.execOpCopy16M2 s
  | .opCopy17M2 => Sys2Proof.Machine.execOpCopy17M2 s
  | .opCopy18M2 => Sys2Proof.Machine.execOpCopy18M2 s
  | .opCopyM3 => Sys2Proof.Machine.execOpCopyM3 s
  | .opCopy4M3 => Sys2Proof.Machine.execOpCopy4M3 s
  | .opCopy5M3 => Sys2Proof.Machine.execOpCopy5M3 s
  | .opCopy6M3 => Sys2Proof.Machine.execOpCopy6M3 s
  | .opCopy7M3 => Sys2Proof.Machine.execOpCopy7M3 s
  | .opCopy8M3 => Sys2Proof.Machine.execOpCopy8M3 s
  | .opCopy9M3 => Sys2Proof.Machine.execOpCopy9M3 s
  | .opCopy10M3 => Sys2Proof.Machine.execOpCopy10M3 s
  | .opCopy11M3 => Sys2Proof.Machine.execOpCopy11M3 s
  | .opCopy12M3 => Sys2Proof.Machine.execOpCopy12M3 s
  | .opCopy13M3 => Sys2Proof.Machine.execOpCopy13M3 s
  | .opCopy14M3 => Sys2Proof.Machine.execOpCopy14M3 s
  | .opCopy15M3 => Sys2Proof.Machine.execOpCopy15M3 s
  | .opCopy16M3 => Sys2Proof.Machine.execOpCopy16M3 s
  | .opCopy17M3 => Sys2Proof.Machine.execOpCopy17M3 s
  | .opCopy18M3 => Sys2Proof.Machine.execOpCopy18M3 s
  | .opCopyM4 => Sys2Proof.Machine.execOpCopyM4 s
  | .opCopy4M4 => Sys2Proof.Machine.execOpCopy4M4 s
  | .opCopy5M4 => Sys2Proof.Machine.execOpCopy5M4 s
  | .opCopy6M4 => Sys2Proof.Machine.execOpCopy6M4 s
  | .opCopy7M4 => Sys2Proof.Machine.execOpCopy7M4 s
  | .opCopy8M4 => Sys2Proof.Machine.execOpCopy8M4 s
  | .opCopy9M4 => Sys2Proof.Machine.execOpCopy9M4 s
  | .opCopy10M4 => Sys2Proof.Machine.execOpCopy10M4 s
  | .opCopy11M4 => Sys2Proof.Machine.execOpCopy11M4 s
  | .opCopy12M4 => Sys2Proof.Machine.execOpCopy12M4 s
  | .opCopy13M4 => Sys2Proof.Machine.execOpCopy13M4 s
  | .opCopy14M4 => Sys2Proof.Machine.execOpCopy14M4 s
  | .opCopy15M4 => Sys2Proof.Machine.execOpCopy15M4 s
  | .opCopy16M4 => Sys2Proof.Machine.execOpCopy16M4 s
  | .opCopy17M4 => Sys2Proof.Machine.execOpCopy17M4 s
  | .opCopy18M4 => Sys2Proof.Machine.execOpCopy18M4 s
  | .opCopyM5 => Sys2Proof.Machine.execOpCopyM5 s
  | .opCopy4M5 => Sys2Proof.Machine.execOpCopy4M5 s
  | .opCopy5M5 => Sys2Proof.Machine.execOpCopy5M5 s
  | .opCopy6M5 => Sys2Proof.Machine.execOpCopy6M5 s
  | .opCopy7M5 => Sys2Proof.Machine.execOpCopy7M5 s
  | .opCopy8M5 => Sys2Proof.Machine.execOpCopy8M5 s
  | .opCopy9M5 => Sys2Proof.Machine.execOpCopy9M5 s
  | .opCopy10M5 => Sys2Proof.Machine.execOpCopy10M5 s
  | .opCopy11M5 => Sys2Proof.Machine.execOpCopy11M5 s
  | .opCopy12M5 => Sys2Proof.Machine.execOpCopy12M5 s
  | .opCopy13M5 => Sys2Proof.Machine.execOpCopy13M5 s
  | .opCopy14M5 => Sys2Proof.Machine.execOpCopy14M5 s
  | .opCopy15M5 => Sys2Proof.Machine.execOpCopy15M5 s
  | .opCopy16M5 => Sys2Proof.Machine.execOpCopy16M5 s
  | .opCopy17M5 => Sys2Proof.Machine.execOpCopy17M5 s
  | .opCopy18M5 => Sys2Proof.Machine.execOpCopy18M5 s
  | .opCopyM6 => Sys2Proof.Machine.execOpCopyM6 s
  | .opCopy4M6 => Sys2Proof.Machine.execOpCopy4M6 s
  | .opCopy5M6 => Sys2Proof.Machine.execOpCopy5M6 s
  | .opCopy6M6 => Sys2Proof.Machine.execOpCopy6M6 s
  | .opCopy7M6 => Sys2Proof.Machine.execOpCopy7M6 s
  | .opCopy8M6 => Sys2Proof.Machine.execOpCopy8M6 s
  | .opCopy9M6 => Sys2Proof.Machine.execOpCopy9M6 s
  | .opCopy10M6 => Sys2Proof.Machine.execOpCopy10M6 s
  | .opCopy11M6 => Sys2Proof.Machine.execOpCopy11M6 s
  | .opCopy12M6 => Sys2Proof.Machine.execOpCopy12M6 s
  | .opCopy13M6 => Sys2Proof.Machine.execOpCopy13M6 s
  | .opCopy14M6 => Sys2Proof.Machine.execOpCopy14M6 s
  | .opCopy15M6 => Sys2Proof.Machine.execOpCopy15M6 s
  | .opCopy16M6 => Sys2Proof.Machine.execOpCopy16M6 s
  | .opCopy17M6 => Sys2Proof.Machine.execOpCopy17M6 s
  | .opCopy18M6 => Sys2Proof.Machine.execOpCopy18M6 s
  | .opCopyM7 => Sys2Proof.Machine.execOpCopyM7 s
  | .opCopy4M7 => Sys2Proof.Machine.execOpCopy4M7 s
  | .opCopy5M7 => Sys2Proof.Machine.execOpCopy5M7 s
  | .opCopy6M7 => Sys2Proof.Machine.execOpCopy6M7 s
  | .opCopy7M7 => Sys2Proof.Machine.execOpCopy7M7 s
  | .opCopy8M7 => Sys2Proof.Machine.execOpCopy8M7 s
  | .opCopy9M7 => Sys2Proof.Machine.execOpCopy9M7 s
  | .opCopy10M7 => Sys2Proof.Machine.execOpCopy10M7 s
  | .opCopy11M7 => Sys2Proof.Machine.execOpCopy11M7 s
  | .opCopy12M7 => Sys2Proof.Machine.execOpCopy12M7 s
  | .opCopy13M7 => Sys2Proof.Machine.execOpCopy13M7 s
  | .opCopy14M7 => Sys2Proof.Machine.execOpCopy14M7 s
  | .opCopy15M7 => Sys2Proof.Machine.execOpCopy15M7 s
  | .opCopy16M7 => Sys2Proof.Machine.execOpCopy16M7 s
  | .opCopy17M7 => Sys2Proof.Machine.execOpCopy17M7 s
  | .opCopy18M7 => Sys2Proof.Machine.execOpCopy18M7 s
  | .opCopyM8 => Sys2Proof.Machine.execOpCopyM8 s
  | .opCopy4M8 => Sys2Proof.Machine.execOpCopy4M8 s
  | .opCopy5M8 => Sys2Proof.Machine.execOpCopy5M8 s
  | .opCopy6M8 => Sys2Proof.Machine.execOpCopy6M8 s
  | .opCopy7M8 => Sys2Proof.Machine.execOpCopy7M8 s
  | .opCopy8M8 => Sys2Proof.Machine.execOpCopy8M8 s
  | .opCopy9M8 => Sys2Proof.Machine.execOpCopy9M8 s
  | .opCopy10M8 => Sys2Proof.Machine.execOpCopy10M8 s
  | .opCopy11M8 => Sys2Proof.Machine.execOpCopy11M8 s
  | .opCopy12M8 => Sys2Proof.Machine.execOpCopy12M8 s
  | .opCopy13M8 => Sys2Proof.Machine.execOpCopy13M8 s
  | .opCopy14M8 => Sys2Proof.Machine.execOpCopy14M8 s
  | .opCopy15M8 => Sys2Proof.Machine.execOpCopy15M8 s
  | .opCopy16M8 => Sys2Proof.Machine.execOpCopy16M8 s
  | .opCopy17M8 => Sys2Proof.Machine.execOpCopy17M8 s
  | .opCopy18M8 => Sys2Proof.Machine.execOpCopy18M8 s
  | .opAdd1Copy4M0 => Sys2Proof.Machine.execOpAdd1Copy4M0 s
  | .opAdd1Copy5M0 => Sys2Proof.Machine.execOpAdd1Copy5M0 s
  | .opAdd1Copy6M0 => Sys2Proof.Machine.execOpAdd1Copy6M0 s
  | .opAdd2Copy4M0 => Sys2Proof.Machine.execOpAdd2Copy4M0 s
  | .opAdd2Copy5M0 => Sys2Proof.Machine.execOpAdd2Copy5M0 s
  | .opAdd2Copy6M0 => Sys2Proof.Machine.execOpAdd2Copy6M0 s
  | .opAdd3Copy4M0 => Sys2Proof.Machine.execOpAdd3Copy4M0 s
  | .opAdd3Copy5M0 => Sys2Proof.Machine.execOpAdd3Copy5M0 s
  | .opAdd3Copy6M0 => Sys2Proof.Machine.execOpAdd3Copy6M0 s
  | .opAdd4Copy4M0 => Sys2Proof.Machine.execOpAdd4Copy4M0 s
  | .opAdd4Copy5M0 => Sys2Proof.Machine.execOpAdd4Copy5M0 s
  | .opAdd4Copy6M0 => Sys2Proof.Machine.execOpAdd4Copy6M0 s
  | .opAdd1Copy4M1 => Sys2Proof.Machine.execOpAdd1Copy4M1 s
  | .opAdd1Copy5M1 => Sys2Proof.Machine.execOpAdd1Copy5M1 s
  | .opAdd1Copy6M1 => Sys2Proof.Machine.execOpAdd1Copy6M1 s
  | .opAdd2Copy4M1 => Sys2Proof.Machine.execOpAdd2Copy4M1 s
  | .opAdd2Copy5M1 => Sys2Proof.Machine.execOpAdd2Copy5M1 s
  | .opAdd2Copy6M1 => Sys2Proof.Machine.execOpAdd2Copy6M1 s
  | .opAdd3Copy4M1 => Sys2Proof.Machine.execOpAdd3Copy4M1 s
  | .opAdd3Copy5M1 => Sys2Proof.Machine.execOpAdd3Copy5M1 s
  | .opAdd3Copy6M1 => Sys2Proof.Machine.execOpAdd3Copy6M1 s
  | .opAdd4Copy4M1 => Sys2Proof.Machine.execOpAdd4Copy4M1 s
  | .opAdd4Copy5M1 => Sys2Proof.Machine.execOpAdd4Copy5M1 s
  | .opAdd4Copy6M1 => Sys2Proof.Machine.execOpAdd4Copy6M1 s
  | .opAdd1Copy4M2 => Sys2Proof.Machine.execOpAdd1Copy4M2 s
  | .opAdd1Copy5M2 => Sys2Proof.Machine.execOpAdd1Copy5M2 s
  | .opAdd1Copy6M2 => Sys2Proof.Machine.execOpAdd1Copy6M2 s
  | .opAdd2Copy4M2 => Sys2Proof.Machine.execOpAdd2Copy4M2 s
  | .opAdd2Copy5M2 => Sys2Proof.Machine.execOpAdd2Copy5M2 s
  | .opAdd2Copy6M2 => Sys2Proof.Machine.execOpAdd2Copy6M2 s
  | .opAdd3Copy4M2 => Sys2Proof.Machine.execOpAdd3Copy4M2 s
  | .opAdd3Copy5M2 => Sys2Proof.Machine.execOpAdd3Copy5M2 s
  | .opAdd3Copy6M2 => Sys2Proof.Machine.execOpAdd3Copy6M2 s
  | .opAdd4Copy4M2 => Sys2Proof.Machine.execOpAdd4Copy4M2 s
  | .opAdd4Copy5M2 => Sys2Proof.Machine.execOpAdd4Copy5M2 s
  | .opAdd4Copy6M2 => Sys2Proof.Machine.execOpAdd4Copy6M2 s
  | .opAdd1Copy4M3 => Sys2Proof.Machine.execOpAdd1Copy4M3 s
  | .opAdd1Copy5M3 => Sys2Proof.Machine.execOpAdd1Copy5M3 s
  | .opAdd1Copy6M3 => Sys2Proof.Machine.execOpAdd1Copy6M3 s
  | .opAdd2Copy4M3 => Sys2Proof.Machine.execOpAdd2Copy4M3 s
  | .opAdd2Copy5M3 => Sys2Proof.Machine.execOpAdd2Copy5M3 s
  | .opAdd2Copy6M3 => Sys2Proof.Machine.execOpAdd2Copy6M3 s
  | .opAdd3Copy4M3 => Sys2Proof.Machine.execOpAdd3Copy4M3 s
  | .opAdd3Copy5M3 => Sys2Proof.Machine.execOpAdd3Copy5M3 s
  | .opAdd3Copy6M3 => Sys2Proof.Machine.execOpAdd3Copy6M3 s
  | .opAdd4Copy4M3 => Sys2Proof.Machine.execOpAdd4Copy4M3 s
  | .opAdd4Copy5M3 => Sys2Proof.Machine.execOpAdd4Copy5M3 s
  | .opAdd4Copy6M3 => Sys2Proof.Machine.execOpAdd4Copy6M3 s
  | .opAdd1Copy4M4 => Sys2Proof.Machine.execOpAdd1Copy4M4 s
  | .opAdd1Copy5M4 => Sys2Proof.Machine.execOpAdd1Copy5M4 s
  | .opAdd1Copy6M4 => Sys2Proof.Machine.execOpAdd1Copy6M4 s
  | .opAdd2Copy4M4 => Sys2Proof.Machine.execOpAdd2Copy4M4 s
  | .opAdd2Copy5M4 => Sys2Proof.Machine.execOpAdd2Copy5M4 s
  | .opAdd2Copy6M4 => Sys2Proof.Machine.execOpAdd2Copy6M4 s
  | .opAdd3Copy4M4 => Sys2Proof.Machine.execOpAdd3Copy4M4 s
  | .opAdd3Copy5M4 => Sys2Proof.Machine.execOpAdd3Copy5M4 s
  | .opAdd3Copy6M4 => Sys2Proof.Machine.execOpAdd3Copy6M4 s
  | .opAdd4Copy4M4 => Sys2Proof.Machine.execOpAdd4Copy4M4 s
  | .opAdd4Copy5M4 => Sys2Proof.Machine.execOpAdd4Copy5M4 s
  | .opAdd4Copy6M4 => Sys2Proof.Machine.execOpAdd4Copy6M4 s
  | .opAdd1Copy4M5 => Sys2Proof.Machine.execOpAdd1Copy4M5 s
  | .opAdd1Copy5M5 => Sys2Proof.Machine.execOpAdd1Copy5M5 s
  | .opAdd1Copy6M5 => Sys2Proof.Machine.execOpAdd1Copy6M5 s
  | .opAdd2Copy4M5 => Sys2Proof.Machine.execOpAdd2Copy4M5 s
  | .opAdd2Copy5M5 => Sys2Proof.Machine.execOpAdd2Copy5M5 s
  | .opAdd2Copy6M5 => Sys2Proof.Machine.execOpAdd2Copy6M5 s
  | .opAdd3Copy4M5 => Sys2Proof.Machine.execOpAdd3Copy4M5 s
  | .opAdd3Copy5M5 => Sys2Proof.Machine.execOpAdd3Copy5M5 s
  | .opAdd3Copy6M5 => Sys2Proof.Machine.execOpAdd3Copy6M5 s
  | .opAdd4Copy4M5 => Sys2Proof.Machine.execOpAdd4Copy4M5 s
  | .opAdd4Copy5M5 => Sys2Proof.Machine.execOpAdd4Copy5M5 s
  | .opAdd4Copy6M5 => Sys2Proof.Machine.execOpAdd4Copy6M5 s
  | .opAdd1Copy4M6 => Sys2Proof.Machine.execOpAdd1Copy4M6 s
  | .opAdd2Copy4M6 => Sys2Proof.Machine.execOpAdd2Copy4M6 s
  | .opAdd3Copy4M6 => Sys2Proof.Machine.execOpAdd3Copy4M6 s
  | .opAdd4Copy4M6 => Sys2Proof.Machine.execOpAdd4Copy4M6 s
  | .opAdd1Copy4M7 => Sys2Proof.Machine.execOpAdd1Copy4M7 s
  | .opAdd2Copy4M7 => Sys2Proof.Machine.execOpAdd2Copy4M7 s
  | .opAdd3Copy4M7 => Sys2Proof.Machine.execOpAdd3Copy4M7 s
  | .opAdd4Copy4M7 => Sys2Proof.Machine.execOpAdd4Copy4M7 s
  | .opAdd1Copy4M8 => Sys2Proof.Machine.execOpAdd1Copy4M8 s
  | .opAdd2Copy4M8 => Sys2Proof.Machine.execOpAdd2Copy4M8 s
  | .opAdd3Copy4M8 => Sys2Proof.Machine.execOpAdd3Copy4M8 s
  | .opAdd4Copy4M8 => Sys2Proof.Machine.execOpAdd4Copy4M8 s
  | .opCopy4M0Add1 => Sys2Proof.Machine.execOpCopy4M0Add1 s
  | .opCopy4M1Add1 => Sys2Proof.Machine.execOpCopy4M1Add1 s
  | .opCopy4M2Add1 => Sys2Proof.Machine.execOpCopy4M2Add1 s
  | .opCopy4M3Add1 => Sys2Proof.Machine.execOpCopy4M3Add1 s
  | .opCopy4M4Add1 => Sys2Proof.Machine.execOpCopy4M4Add1 s
  | .opCopy4M5Add1 => Sys2Proof.Machine.execOpCopy4M5Add1 s
  | .opCopy4M6Add1 => Sys2Proof.Machine.execOpCopy4M6Add1 s
  | .opCopy4M7Add1 => Sys2Proof.Machine.execOpCopy4M7Add1 s
  | .opCopy4M8Add1 => Sys2Proof.Machine.execOpCopy4M8Add1 s

end Sys2Proof.Machine
end

