-- ==== Sys2Proof/Machine/FetchWord.lean ====
section
/-! DEFINITION. Placing one word of the opcode table where the next step finds it (log 1, log 3). -/

namespace Sys2Proof.Machine

/-- The command code of RD_GET, which runs the opcode byte at RD_POS (R604). -/
def rdGetCode : Byte := 0x23

/-- The host's next access is a write of this code into CMD. -/
def State.withCommand (s : State) (code : Byte) : State := { s with host := .writeCmd code :: s.host }

/-- The reader's next unread byte is the opcode `op`, followed by ten zero bytes (two size varints of zeros), and the host's
next access issues RD_GET: an active reader, a committed table, nothing pending or pushed back, no failed session. -/
def State.withOpcode (s : State) (op : Byte) : State :=
  let pos := s.rdPos.toNat
  let placed := op :: List.replicate 10 0
  { s with
    inp := s.inp.take pos ++ List.replicate (pos - s.inp.length) 0 ++ placed ++ s.inp.drop (pos + 11)
    rdEnd := w64 (pos + 11)
    readerActive := true
    tableValid := true
    sessionFailed := false
    pendingOp := none
    pushbackInst := none
    host := .writeCmd rdGetCode :: s.host }

/-- A byte that is a command code is placed in CMD's path, any other in the instruction stream (log 1). -/
def State.withByte (s : State) (b : Byte) : State :=
  match decodeCommand b with
  | some _ => s.withCommand b
  | none => s.withOpcode b

end Sys2Proof.Machine
end

