-- ==== Sys2Proof/Machine/HostPort.lean ====
section
/-! DEFINITION. The host's accesses as steps (`10_state.md` R100, `20_memory.md` R202, R210): what the next one is, and what an
access that issues no command does. -/

namespace Sys2Proof.Machine

/-- What the block does next: nothing, a command code to run, or a register access already answered. -/
inductive Fetched where
  | idle
  | command (code : Byte) (s : State)
  | access (r : Result State)

/-- ARGi <- v (R100). -/
def Quad.set (q : Quad) (i : Fin 4) (v : Word) : Quad :=
  match i with
  | 0 => { q with r0 := v }
  | 1 => { q with r1 := v }
  | 2 => { q with r2 := v }
  | 3 => { q with r3 := v }

/-- RESi (R100). -/
def Quad.get (q : Quad) (i : Fin 4) : Word :=
  match i with
  | 0 => q.r0
  | 1 => q.r1
  | 2 => q.r2
  | 3 => q.r3

/-- Answers a host read of a byte memory: the byte, or a fault where there is none. -/
def answerByte (b : Option Byte) (f : Fault) (s : State) : Result State :=
  match b with
  | some v => .next { s with hostData := w64 v.toNat }
  | none => .fault f

/-- Takes the host's next access. A write to CMD latches the code and issues it (R100); the others are answered here. A read
changes nothing of the block (R202); a read of CMD answers the free value (U9; log 4). -/
def fetch (s : State) : Fetched :=
  match s.host with
  | [] => .idle
  | a :: rest =>
    let t := { s with host := rest }
    match a with
    | .writeCmd code => .command code { t with cmd := code }
    | .writeArg i v => .access (.next { t with arg := t.arg.set i v })
    | .readRes i => .access (.next { t with hostData := t.res.get i })
    | .readStatus => .access (.next { t with hostData := w64 t.status.code })
    | .readOut p => .access (answerByte (t.readByte .out p) .outByteAbsent t)
    | .readIn p => .access (answerByte (t.readByte .inp p) .inByteAbsent t)
    | .readCmd =>
      .access (.next { t with hostData := w64 (Config.cmdReadback t.freeReads).toNat, freeReads := t.freeReads + 1 })

/-- The port at a host address (HOST_MAP, R208; log 12). -/
def HostMap.portAt (m : HostMap) (addr : Nat) : Option Port := (m.find? (fun e => e.1 == addr)).map Prod.snd

/-- A host write at an address, as an access of the block: only ARG and CMD are written (R100, U10). CMD takes the low 8 bits. -/
def HostMap.write (m : HostMap) (addr : Nat) (v : Word) : Option HostAccess :=
  match HostMap.portAt m addr with
  | some (.arg i) => some (.writeArg i v)
  | some .cmd => some (.writeCmd (BitVec.ofNat 8 v.toNat))
  | _ => none

/-- A host read at an address, as an access of the block. -/
def HostMap.read (m : HostMap) (addr : Nat) : Option HostAccess :=
  match HostMap.portAt m addr with
  | some (.res i) => some (.readRes i)
  | some .status => some .readStatus
  | some .cmd => some .readCmd
  | _ => none

end Sys2Proof.Machine
end

