-- ==== Sys2Proof/Machine/Step.lean ====
section
/-! DEFINITION. One step of the machine: the host's next access (`20_memory.md` R210). A command code runs its command, an
unknown code ends ILLEGAL (`45_control.md` R905), and with no access to come the block is idle (`60_exceptions.md` R1024). -/

namespace Sys2Proof.Machine

def step (s : State) : Host.Outcome State Fault Refusal :=
  match fetch s with
  | .idle => .next s
  | .access r => r
  | .command code t =>
    match decodeCommand code with
    | some i => exec i t
    | none => execIllegal t

/-- The state whose next step runs the instruction of a table word (log 1, log 3). Every row of the table is one byte. -/
def State.withFetchWord (s : State) (_nbits w : Nat) : State := s.withByte (BitVec.ofNat 8 w)

end Sys2Proof.Machine
end

