-- ==== Sys2Proof/Safety.lean ====
section
/-! DEFINITION. What the statements speak of: the classes of instructions, the rules of the writer and of the reader as relations,
and the invariant that every step keeps. Nothing of the machine depends on this file. -/

namespace Sys2Proof.Machine

/-- The instruction is RD_GET, or an opcode row, which is the RD_GET that reads that opcode (`42_reader.md` R604; log 2). -/
abbrev isReaderGet (i : Instr) : Prop := i = .rdGet ∨ i.opcode?.isSome = true

/-- The decode-side commands, which SESSION_FAILED refuses (`60_exceptions.md` R1004). -/
abbrev isDecodeSide (i : Instr) : Prop :=
  i ∈ [Instr.fhParse, .whParse, .rdStart, .rdExtend, .rdSeek, .rdUnget, .winEnd] ∨ isReaderGet i

/-- The commands whose failures can be stream-content errors (`60_exceptions.md` R1003). -/
abbrev readsStream (i : Instr) : Prop := i = .fhParse ∨ i = .whParse ∨ i = .winEnd ∨ isReaderGet i

/-- Opcode `op` holds nothing: both halves of its row are NOOP (`42_reader.md` R603). -/
abbrev bareNoop (ct : List Host.Cell) (op : Byte) : Prop :=
  (firstHalf ct op.toNat).typ = typNoop ∧ (secondHalf ct op.toNat).typ = typNoop

/-- The half RD_GET returns of an opcode it reads: the first, or the second of a NOOP-first row (`42_reader.md` R603). -/
def returnedHalf (ct : List Host.Cell) (op : Byte) : Half :=
  if (firstHalf ct op.toNat).typ = typNoop then secondHalf ct op.toNat else firstHalf ct op.toNat

/-- What stays pending after that: the opcode, when it is dual (`42_reader.md` R603). -/
def pendingAfter (ct : List Host.Cell) (op : Byte) : Option Byte :=
  if (firstHalf ct op.toNat).typ ≠ typNoop ∧ (secondHalf ct op.toNat).typ ≠ typNoop then some op else none

/-- RD_GET's step 4 for a half, once its size is known (`42_reader.md` R604). -/
def returned (s : State) (h : Half) (pend : Option Byte) (size pos : Nat) : State :=
  { s with
    rdPos := w64 pos, pendingOp := pend, lastInst := some { typ := h.typ, size := w64 size, mode := h.mode }, status := .ok
    res := { r0 := w64 h.typ.toNat, r1 := w64 size, r2 := w64 h.mode.toNat, r3 := w64 pos } }

/-- RD_GET's steps 3 and 4 for a half found at position `p`: the table's size, or the size varint there (`42_reader.md` R604). -/
def sizedReturn (s : State) (h : Half) (pend : Option Byte) (p : Nat) : State :=
  if h.size ≠ 0 then returned s h pend h.size.toNat p
  else
    match vdec32 s.inp p s.rdEnd.toNat with
    | .truncated => { s with status := .truncated }
    | .malformed => { s with status := .malformed, sessionFailed := true }
    | .ok v q => if v > maxField then { s with status := .malformed, sessionFailed := true } else returned s h pend v q

/-- What `emit(t, s, m)` leaves in INSTS and WR_LAST (`43_window_writer.md` R702): paired into the opcode at WR_LAST where the
table has a dual opcode, else an opcode of its own. -/
def emitted (s : State) (typ : Byte) (size mode : Nat) : List Byte × Option Nat :=
  let paired :=
    s.wrLast.bind (fun pos => (s.insts[pos]?).bind (fun f => (secondLookup s.second f (instIdx typ mode) size).map (pos, ·)))
  match paired with
  | some (pos, c) => (s.insts.set pos c ++ (if (secondHalf s.ct c.toNat).size = 0 then venc size else []), none)
  | none =>
    let o := (firstLookup s.first (instIdx typ mode) size).getD 0
    (s.insts ++ [o] ++ (if (firstHalf s.ct o.toNat).size = 0 then venc size else []), some s.insts.length)

/-- How WR_ADD, WR_RUN and WR_COPY end once their operands are checked (`43_window_writer.md` R700 (4), (5), R701): the regions with
the instruction added, or OUT_OF_RANGE. `toData` is a payload for the data section, else for the addresses section. -/
def written (s : State) (typ : Byte) (size mode : Nat) (toData : Bool) (payload : List Byte) : State :=
  let e := emitted s typ size mode
  let insts := if s.wrInterleaved then e.1 ++ payload else e.1
  let data := if s.wrInterleaved = false ∧ toData = true then s.data ++ payload else s.data
  let addrs := if s.wrInterleaved = false ∧ toData = false then s.addrs ++ payload else s.addrs
  if s.wrTargetLen.toNat + size > maxField then { s with status := .outOfRange }
  else if data.length + insts.length + addrs.length > s.cfg.wrCapacity then { s with status := .outOfRange }
  else
    { s with
      insts := insts, data := data, addrs := addrs, wrLast := e.2, wrInstCount := s.wrInstCount + 1
      wrTargetLen := w64 (s.wrTargetLen.toNat + size), status := .ok }

/-- `fail_stream st` (`44_window_parser.md` R800): STATUS and SESSION_FAILED, nothing else. -/
def failedStream (s : State) (st : Status) : State := { s with status := st, sessionFailed := true }

/-- `need(p)`, then the byte at `p` (`44_window_parser.md` R800): TRUNCATED when IN ends before it. -/
def onByte (s : State) (p : Nat) (go : Byte → State) : State :=
  match s.inp[p]? with
  | none => { s with status := .truncated }
  | some b => go b

/-- `ck32(p)` (`44_window_parser.md` R800), going on with the value and the next position. -/
def onVarint (s : State) (p : Nat) (go : Nat → Nat → State) : State :=
  match vdec32 s.inp p s.inLen with
  | .truncated => { s with status := .truncated }
  | .malformed => failedStream s .malformed
  | .ok v q => go v q

/-- `field32(p)` (`44_window_parser.md` R800): `ck32` with the MAX_FIELD test. -/
def onField (s : State) (p : Nat) (go : Nat → Nat → State) : State :=
  onVarint s p (fun v q => if v > maxField then failedStream s .malformed else go v q)

/-- An instruction the host gives the writer, as the command and its operands (`43_window_writer.md` R703 to R705). -/
inductive WriterOp where
  | add (pos count : Word)
  | run (byte size : Word)
  | copy (size mode addr : Word)
deriving DecidableEq, Repr

/-- The command. -/
def WriterOp.instr : WriterOp → Instr
  | .add _ _ => .wrAdd
  | .run _ _ => .wrRun
  | .copy _ _ _ => .wrCopy

/-- The operands in ARG0..ARG3. -/
def WriterOp.args : WriterOp → Quad
  | .add pos count => { r0 := pos, r1 := count, r2 := 0, r3 := 0 }
  | .run byte size => { r0 := byte, r1 := size, r2 := 0, r3 := 0 }
  | .copy size mode addr => { r0 := size, r1 := mode, r2 := addr, r3 := 0 }

/-- The instruction record the reader returns for it (`43_window_writer.md` R720). -/
def WriterOp.record : WriterOp → InstRecord
  | .add _ count => { typ := typAdd, size := count, mode := 0 }
  | .run _ size => { typ := typRun, size := size, mode := 0 }
  | .copy size mode _ => { typ := typCopy, size := size, mode := BitVec.ofNat 8 mode.toNat }

/-- Its data or address bytes (`30_encoding.md` R343, R344), for a writer with this IN and these cache sizes. -/
def WriterOp.payload (s : State) : WriterOp → List Byte
  | .add pos count => (s.inp.drop pos.toNat).take count.toNat
  | .run byte _ => [BitVec.ofNat 8 byte.toNat]
  | .copy _ mode addr => if 2 + s.nearSize.toNat ≤ mode.toNat then [BitVec.ofNat 8 addr.toNat] else venc addr.toNat

/-- The payload goes to the data section, not to the addresses section (`30_encoding.md` R344). -/
def WriterOp.isData : WriterOp → Bool
  | .add _ _ => true
  | .run _ _ => true
  | .copy _ _ _ => false

/-- The writer takes a sequence of instructions, each ending OK. -/
def Writes : List WriterOp → State → State → Prop
  | [], s, t => s = t
  | op :: rest, s, t => ∃ u, exec op.instr { s with arg := op.args } = .next u ∧ u.status = .ok ∧ Writes rest u t

/-- The reader returns a sequence of instruction records, each by one RD_GET that ends OK. With `seek`, each is followed by the
RD_SEEK over as many bytes as the record's payload has: the protocol of `42_reader.md` R607. -/
def Reads (seek : Bool) : List (InstRecord × Nat) → State → State → Prop
  | [], s, t => s = t
  | (r, n) :: rest, s, t =>
    ∃ u, exec .rdGet s = .next u ∧ u.status = .ok ∧
      u.res = { r0 := w64 r.typ.toNat, r1 := r.size, r2 := w64 r.mode.toNat, r3 := u.rdPos } ∧
      if seek then
        ∃ v, exec .rdSeek { u with arg := { u.arg with r0 := w64 (u.rdPos.toNat + n) } } = .next v ∧ v.status = .ok ∧
          Reads seek rest v t
      else Reads seek rest u t

/-- An instruction record is one `10_state.md` R118 allows. -/
abbrev InstRecord.wf (maxMode : Nat) (r : InstRecord) : Prop :=
  (r.typ = typAdd ∨ r.typ = typRun ∨ r.typ = typCopy) ∧ r.size.toNat ≤ maxField ∧ r.mode.toNat ≤ maxMode ∧
    (r.typ ≠ typCopy → r.mode = 0)

/-- The parameters are in range and IN fits its capacity (`10_state.md` R105, R115). -/
structure InvConfig (s : State) : Prop where
  cfg : s.cfg.wf
  inLen : s.inp.length ≤ s.cfg.inSize

/-- The code table: canonical form, cache sizes in range, and, while TABLE_VALID = 1, a validated table with the maps built from it
(`41_codetable.md` R503 to R505, R511; `20_memory.md` R212). -/
structure InvTable (s : State) : Prop where
  canonical : Memory.wf defaultByte ctSize s.ct = true
  caches : s.nearSize.toNat + s.sameSize.toNat ≤ cacheLimit
  valid : s.tableValid = true → validate s.ct s.maxMode = true
  first : s.tableValid = true → s.first = buildFirst s.ct
  second : s.tableValid = true → s.second = buildSecond s.ct s.first

/-- The configuration registers are in range (`10_state.md` R105, R107 (a)). -/
structure InvLimits (s : State) : Prop where
  dictSize : s.dictSize.toNat ≤ maxField
  maxWindowSize : s.maxWindowSize.toNat ≤ maxField
  maxFileSize : s.maxFileSize.toNat ≤ maxField

/-- The decode session (`10_state.md` R104, R113; `44_window_parser.md` R813, R820). -/
structure InvSession (s : State) : Prop where
  ext : s.extAllowed = true → s.decOpen = true
  win : s.winActive = true → s.decOpen = true
  closed : s.decOpen = false → s.decTargetTotal = 0
  total : s.decTargetTotal.toNat ≤ s.maxFileSize.toNat
  window : s.winActive = true → s.decTargetTotal.toNat + s.w.targetSize.toNat ≤ s.maxFileSize.toNat

/-- The W_ registers (`30_encoding.md` R341, R342, R345; `44_window_parser.md` R811 to R818). -/
structure InvWindow (s : State) : Prop where
  present : s.w.dataStart.toNat ≤ s.inLen
  lengths : s.w.dataLen.toNat ≤ maxField ∧ s.w.instLen.toNat ≤ maxField ∧ s.w.addrLen.toNat ≤ maxField
  instStart : s.w.instStart.toNat = s.w.dataStart.toNat + s.w.dataLen.toNat
  addrStart : s.w.addrStart.toNat = s.w.instStart.toNat + s.w.instLen.toNat
  windowEnd : s.w.windowEnd.toNat = s.w.addrStart.toNat + s.w.addrLen.toNat
  source : s.w.srcLen.toNat + s.w.srcPos.toNat ≤ maxField
  indicator : s.w.indicator.toNat < 8 ∧ s.w.indicator.toNat % 4 ≠ 3
  deltaInd : s.w.deltaInd = 0
  interleaved : s.w.interleaved = true → s.extAllowed = true ∧ s.w.dataLen = 0 ∧ s.w.addrLen = 0

/-- The reader (`10_state.md` R111, R118; `42_reader.md` R600 to R605). -/
structure InvReader (s : State) : Prop where
  bound : s.readerActive = true → s.winActive = true ∧ s.tableValid = true
  range : s.readerActive = true →
    s.w.instStart.toNat ≤ s.rdPos.toNat ∧ s.rdPos.toNat ≤ s.rdEnd.toNat ∧ s.rdEnd.toNat ≤ s.w.addrStart.toNat ∧
      s.rdEnd.toNat ≤ s.inLen
  idle : s.readerActive = false → s.pendingOp = none ∧ s.pushbackInst = none ∧ s.lastInst = none
  pushback : s.pushbackInst ≠ none → s.lastInst = none
  pending : ∀ op, s.pendingOp = some op → (secondHalf s.ct op.toNat).typ ≠ typNoop
  records : ∀ r, s.pushbackInst = some r ∨ s.lastInst = some r → r.wf s.maxMode

/-- The writer (`10_state.md` R112; `43_window_writer.md` R700 to R707). -/
structure InvWriter (s : State) : Prop where
  empty : s.wrInstCount = 0 → s.data = [] ∧ s.insts = [] ∧ s.addrs = [] ∧ s.wrLast = none ∧ s.wrTargetLen = 0
  used : s.wrInstCount ≠ 0 → s.encOpen = true ∧ s.tableValid = true
  capacity : s.regionBytes ≤ s.cfg.wrCapacity
  count : s.wrInstCount.toNat ≤ s.regionBytes
  target : s.wrTargetLen.toNat ≤ maxField
  last : ∀ pos, s.wrLast = some pos → ∃ f, s.insts[pos]? = some f ∧ (secondHalf s.ct f.toNat).typ = typNoop
  oneRegion : s.wrInterleaved = true → s.data = [] ∧ s.addrs = []

/-- What every step keeps. -/
structure Inv (s : State) : Prop where
  config : InvConfig s
  table : InvTable s
  limits : InvLimits s
  session : InvSession s
  window : InvWindow s
  reader : InvReader s
  writer : InvWriter s

end Sys2Proof.Machine
end

