-- ==== Sys2Proof/Certificates/Slice0/Obligations.lean ====
section
/-! DEFINITION. The statements for the provers. Each docstring names the rules of `spec/` it formalises; `{ s with … }` after a
command says its whole effect, so it is the command's frame too. -/

open Sys2Proof Sys2Proof.Machine

/-! ### Encoding and the step -/

/-- Words written out from R300 and R320: one or more of every family of commands, and opcode bytes of every line of the table. -/
def Obligations.WordsDecode : Prop :=
  decode .command [0x00, 0x55] = .ok (.nop, [0x55]) ∧ decode .command [0x01] = .ok (.venc32, []) ∧
  decode .command [0x04] = .ok (.vdec64, []) ∧ decode .command [0x12] = .ok (.ctWrite, []) ∧
  decode .command [0x19] = .ok (.mapSecond, []) ∧ decode .command [0x23] = .ok (.rdGet, []) ∧
  decode .command [0x32] = .ok (.wrCopy, []) ∧ decode .command [0x35] = .ok (.fhWrite, []) ∧
  decode .command [0x41] = .ok (.whParse, []) ∧ decode .command [0x72] = .ok (.inAppend, []) ∧
  decode .command [0x7F] = .ok (.reset, []) ∧ decode .command [0x05] = .error (.illegalCommand 0x05) ∧
  decode .command [0x80] = .error (.illegalCommand 0x80) ∧ decode .command [] = .error .noBytes ∧
  decode .stream [0x00] = .ok (.opRun, []) ∧ decode .stream [0x01, 0x05] = .ok (.opAdd, [0x05]) ∧
  decode .stream [0x12] = .ok (.opAdd17, []) ∧ decode .stream [0x75] = .ok (.opCopy5M6, []) ∧
  decode .stream [0xA6] = .ok (.opAdd2Copy4M0, []) ∧ decode .stream [0xEE] = .ok (.opAdd4Copy4M6, []) ∧
  decode .stream [0xF7] = .ok (.opCopy4M0Add1, []) ∧ decode .stream [0xFF] = .ok (.opCopy4M8Add1, [])

/-- The decoder and the encoder agree in both directions, every opcode byte is legal (R321), and a command code is rejected exactly
when R301 lists it. -/
def Obligations.DecodeEncodeAgree : Prop :=
  (∀ (i : Instr) (rest : List Byte), decode (encode i).1 ((encode i).2 :: rest) = .ok (i, rest)) ∧
  (∀ (sp : Space) (bytes rest : List Byte) (i : Instr), decode sp bytes = .ok (i, rest) →
    (encode i).1 = sp ∧ bytes = (encode i).2 :: rest) ∧
  (∀ (op : Byte) (rest : List Byte), ∃ i, decode .stream (op :: rest) = .ok (i, rest)) ∧
  (∀ (code : Byte) (rest : List Byte), decode .command (code :: rest) = .error (.illegalCommand code) ↔
    0x05 ≤ code ∧ code ≤ 0x0F ∨ 0x15 ≤ code ∧ code ≤ 0x17 ∨ 0x1A ≤ code ∧ code ≤ 0x1F ∨ 0x25 ≤ code ∧ code ≤ 0x2F ∨
    0x36 ≤ code ∧ code ≤ 0x3F ∨ 0x43 ≤ code ∧ code ≤ 0x6F ∨ 0x73 ≤ code ∧ code ≤ 0x7E ∨ 0x80 ≤ code)

/-- A host write of a code into CMD runs the command the code decodes to, at the state with the write taken (R100, R300, R210). CMD
then holds the code: the model's choice, log 4. -/
def Obligations.StepRunsDecodedCommand : Prop :=
  ∀ (s : State) (code : Byte) (rest : List HostAccess) (i : Instr), s.host = .writeCmd code :: rest →
    decode .command [code] = .ok (i, []) → step s = exec i { s with host := rest, cmd := code }

/-- RD_GET runs the instruction its next opcode byte decodes to, and a step that issues RD_GET does so (R604, R321). That an opcode
row is an instruction of its own is the model's reading, log 2. -/
def Obligations.RdGetRunsOpcodeAtCursor : Prop :=
  (∀ (s : State) (op : Byte) (rest : List Byte) (i : Instr), s.unread = op :: rest → decode .stream s.unread = .ok (i, rest) →
    exec .rdGet s = exec i s) ∧
  (∀ (s : State) (after : List HostAccess) (op : Byte) (rest : List Byte) (i : Instr), s.host = .writeCmd 0x23 :: after →
    s.unread = op :: rest → decode .stream s.unread = .ok (i, rest) → step s = exec i { s with host := after, cmd := 0x23 }) ∧
  (∀ (s : State) (i : Instr), i.opcode?.isSome = true → s.unread = [] → exec i s = exec .rdGet s)

/-- The host's accesses other than a command (R100, R202, R607, R1024): a write sets one argument register, a read changes nothing of
the block, and with no access to come the block holds all its state. `hostData`, and a fault for a byte that does not exist, are
the model's (logs 3, 11). -/
def Obligations.HostAccesses : Prop :=
  ∀ (s : State) (rest : List HostAccess),
    (s.host = [] → step s = .next s) ∧
    (∀ v, s.host = .writeArg 0 v :: rest → step s = .next { s with host := rest, arg := { s.arg with r0 := v } }) ∧
    (∀ v, s.host = .writeArg 1 v :: rest → step s = .next { s with host := rest, arg := { s.arg with r1 := v } }) ∧
    (∀ v, s.host = .writeArg 2 v :: rest → step s = .next { s with host := rest, arg := { s.arg with r2 := v } }) ∧
    (∀ v, s.host = .writeArg 3 v :: rest → step s = .next { s with host := rest, arg := { s.arg with r3 := v } }) ∧
    (s.host = .readRes 0 :: rest → step s = .next { s with host := rest, hostData := s.res.r0 }) ∧
    (s.host = .readRes 1 :: rest → step s = .next { s with host := rest, hostData := s.res.r1 }) ∧
    (s.host = .readRes 2 :: rest → step s = .next { s with host := rest, hostData := s.res.r2 }) ∧
    (s.host = .readRes 3 :: rest → step s = .next { s with host := rest, hostData := s.res.r3 }) ∧
    (s.host = .readStatus :: rest → step s = .next { s with host := rest, hostData := w64 s.status.code }) ∧
    (∀ p b, s.host = .readOut p :: rest → s.readByte .out p = some b →
      step s = .next { s with host := rest, hostData := w64 b.toNat }) ∧
    (∀ p b, s.host = .readIn p :: rest → s.readByte .inp p = some b →
      step s = .next { s with host := rest, hostData := w64 b.toNat }) ∧
    (∀ p, s.host = .readOut p :: rest → s.outLen ≤ p → step s = .fault .outByteAbsent) ∧
    (∀ p, s.host = .readIn p :: rest → s.inLen ≤ p → step s = .fault .inByteAbsent) ∧
    (s.host = .readCmd :: rest → ∃ v, step s = .next { s with host := rest, hostData := v, freeReads := s.freeReads + 1 })

/-- A code that is no command ends ILLEGAL and changes nothing else (R905, R301). CMD holds the code: the model's choice, log 4. -/
def Obligations.IllegalCode : Prop :=
  ∀ (s : State) (code : Byte) (rest : List HostAccess), s.host = .writeCmd code :: rest →
    decode .command [code] = .error (.illegalCommand code) →
    step s = .next { s with host := rest, cmd := code, status := .illegal }

/-! ### Reset and control -/

/-- The reset state, for every choice of the OPEN parameters (R1100). -/
def Obligations.ResetState : Prop :=
  ∀ cfg : Config, ∃ s : State, s = State.resetWith cfg ∧
    s.arg = { r0 := 0, r1 := 0, r2 := 0, r3 := 0 } ∧ s.res = { r0 := 0, r1 := 0, r2 := 0, r3 := 0 } ∧
    s.status.code = 0 ∧ s.ctrl.toNat = 0x4 ∧ s.wrInterleaved = false ∧ s.wrChecksum = false ∧ s.allowVcdTarget = true ∧
    s.dictSize = 0 ∧ s.maxWindowSize.toNat = 2 ^ 31 - 1 ∧ s.maxFileSize.toNat = 2 ^ 31 - 1 ∧
    s.nearSize = 4 ∧ s.sameSize = 3 ∧ s.maxMode = 8 ∧ s.flags = 0x001 ∧
    s.inp = [] ∧ s.inLen = 0 ∧ s.out = [] ∧ s.outLen = 0 ∧ s.decTargetTotal = 0 ∧
    (∀ a ≤ 5, ∀ r ≤ 255, ctByte s.ct a r = (defaultRow r).byte a) ∧
    s.first = buildFirst s.ct ∧ s.second = buildSecond s.ct s.first ∧
    s.rdPos = 0 ∧ s.rdEnd = 0 ∧ s.pendingOp = none ∧ s.pushbackInst = none ∧ s.lastInst = none ∧
    s.data = [] ∧ s.insts = [] ∧ s.addrs = [] ∧ s.wrLast = none ∧ s.wrInstCount = 0 ∧ s.wrTargetLen = 0 ∧
    s.w = { indicator := 0, srcLen := 0, srcPos := 0, deltaLen := 0, targetSize := 0, deltaInd := 0, dataLen := 0, instLen := 0,
            addrLen := 0, checksum := 0, dataStart := 0, instStart := 0, addrStart := 0, windowEnd := 0, layout := 0 }

/-- NOP (R900). -/
def Obligations.NopEffect : Prop := ∀ s : State, exec .nop s = .next { s with status := .ok }

/-- REG_READ (R901): the value of every register of R105's map, and ILLEGAL for every other number. -/
def Obligations.RegReadEffect : Prop :=
  ∀ s : State,
    let map : List (Nat × Nat) :=
      [(0x00, s.ctrl.toNat), (0x01, s.dictSize.toNat), (0x02, s.maxWindowSize.toNat), (0x03, s.maxFileSize.toNat),
       (0x04, s.nearSize.toNat), (0x05, s.sameSize.toNat), (0x06, 1 + s.nearSize.toNat + s.sameSize.toNat),
       (0x08, s.status.code), (0x09, s.flags), (0x0A, s.inp.length), (0x0B, s.out.length), (0x0C, s.decTargetTotal.toNat),
       (0x10, s.rdPos.toNat), (0x11, s.rdEnd.toNat), (0x18, s.data.length), (0x19, s.insts.length), (0x1A, s.addrs.length),
       (0x1B, s.wrInstCount.toNat), (0x1C, s.wrTargetLen.toNat), (0x20, s.w.indicator.toNat), (0x21, s.w.srcLen.toNat),
       (0x22, s.w.srcPos.toNat), (0x23, s.w.deltaLen.toNat), (0x24, s.w.targetSize.toNat), (0x25, s.w.deltaInd.toNat),
       (0x26, s.w.dataLen.toNat), (0x27, s.w.instLen.toNat), (0x28, s.w.addrLen.toNat), (0x29, s.w.checksum.toNat),
       (0x2A, s.w.dataStart.toNat), (0x2B, s.w.instStart.toNat), (0x2C, s.w.addrStart.toNat), (0x2D, s.w.windowEnd.toNat),
       (0x2E, s.w.layout.toNat)]
    exec .regRead s = .next (
      match map.lookup s.a0 with
      | none => { s with status := .illegal }
      | some v => { s with res := { s.res with r0 := w64 v }, status := .ok })

/-- REG_WRITE (R902, R107): access, freezes and ranges in order. -/
def Obligations.RegWriteEffect : Prop :=
  ∀ s : State,
    exec .regWrite s = .next (
      if s.a0 = 0x00 then
        let new := BitVec.ofNat 3 s.a1
        if new.getLsbD 2 ≠ s.ctrl.getLsbD 2 ∧ s.decOpen = true then { s with status := .stateError }
        else if (new.getLsbD 0 ≠ s.ctrl.getLsbD 0 ∨ new.getLsbD 1 ≠ s.ctrl.getLsbD 1) ∧
            (s.encOpen = true ∨ s.wrInstCount ≠ 0) then { s with status := .stateError }
        else { s with ctrl := new, status := .ok }
      else if s.a0 = 0x01 then
        if s.decOpen = true ∨ s.encOpen = true then { s with status := .stateError }
        else if s.a1 > 2 ^ 31 - 1 then { s with status := .outOfRange }
        else { s with dictSize := s.arg.r1, status := .ok }
      else if s.a0 = 0x02 then
        if s.arg.r1 ≠ s.maxWindowSize ∧ s.decOpen = true then { s with status := .stateError }
        else if s.a1 > 2 ^ 31 - 1 then { s with status := .outOfRange }
        else { s with maxWindowSize := s.arg.r1, status := .ok }
      else if s.a0 = 0x03 then
        if s.arg.r1 ≠ s.maxFileSize ∧ s.decOpen = true then { s with status := .stateError }
        else if s.a1 > 2 ^ 31 - 1 then { s with status := .outOfRange }
        else { s with maxFileSize := s.arg.r1, status := .ok }
      else { s with status := .illegal })

/-- IN_APPEND (R903), for an IN that holds at most IN_SIZE bytes. -/
def Obligations.InAppendEffect : Prop :=
  ∀ s : State, s.inLen ≤ s.cfg.inSize →
    exec .inAppend s = .next (
      if s.inLen = s.cfg.inSize then { s with status := .outOfRange }
      else
        { s with
          inp := s.inp ++ [BitVec.ofNat 8 (s.a0 % 256)], res := { s.res with r0 := w64 (s.inp.length + 1) }, status := .ok })

/-- RESET (R904): every piece of state takes its reset value. The parameters and the host's side are not the block's state (R117; log
16). What CMD then holds is the model's choice (log 4) and is left open here. -/
def Obligations.ResetEffect : Prop :=
  ∀ s : State, ∃ c : Byte,
    exec .reset s = .next { State.resetWith s.cfg with
      cmd := c, host := s.host, hostData := s.hostData, freeReads := s.freeReads, status := .ok }

/-! ### Varints -/

/-- VENC32 (R410). -/
def Obligations.Venc32Effect : Prop :=
  ∀ s : State,
    let bytes := venc (s.a0 % 2 ^ 32)
    exec .venc32 s = .next { s with out := s.out ++ bytes, res := { s.res with r0 := w64 bytes.length }, status := .ok }

/-- VENC64 (R411). -/
def Obligations.Venc64Effect : Prop :=
  ∀ s : State,
    let bytes := venc s.a0
    exec .venc64 s = .next (
      if s.a0 ≥ 2 ^ 63 then { s with status := .outOfRange }
      else { s with out := s.out ++ bytes, res := { s.res with r0 := w64 bytes.length }, status := .ok })

/-- VDEC32 (R412). -/
def Obligations.Vdec32Effect : Prop :=
  ∀ s : State,
    exec .vdec32 s = .next (
      if ¬(s.a0 ≤ s.a1 ∧ s.a1 ≤ s.inLen) then { s with status := .outOfRange }
      else
        match vdec32 s.inp s.a0 s.a1 with
        | .truncated => { s with status := .truncated }
        | .malformed => { s with status := .malformed }
        | .ok v q => { s with res := { s.res with r0 := w64 v, r1 := w64 q }, status := .ok })

/-- VDEC64 (R413). -/
def Obligations.Vdec64Effect : Prop :=
  ∀ s : State,
    exec .vdec64 s = .next (
      if ¬(s.a0 ≤ s.a1 ∧ s.a1 ≤ s.inLen) then { s with status := .outOfRange }
      else
        match vdec64 s.inp s.a0 s.a1 with
        | .truncated => { s with status := .truncated }
        | .malformed => { s with status := .malformed }
        | .ok v q => { s with res := { s.res with r0 := w64 v, r1 := w64 q }, status := .ok })

/-- The encoder's bytes (R401, R402, with R310, R311, R405): continuation bits on all bytes but the last, the base-128 digits of the
value, no leading 0x80, the length of R311, and no varint of the same value is shorter. -/
def Obligations.VarintCanonical : Prop :=
  ∀ v : Nat, v < 2 ^ 64 →
    (∃ (cs : List Byte) (last : Byte), venc v = cs ++ [last] ∧ (∀ b ∈ cs, 128 ≤ b.toNat) ∧ last.toNat < 128 ∧
      (cs ++ [last]).foldl (fun a b => a * 128 + b.toNat % 128) 0 = v ∧ (venc v).head? ≠ some 0x80) ∧
    (v < 128 → vlen v = 1) ∧ (128 ≤ v → vlen v = 1 + vlen (v / 128)) ∧
    (v < 2 ^ 32 → vlen v ≤ 5) ∧ (v < 2 ^ 63 → vlen v ≤ 9) ∧
    (∀ (cs : List Byte) (last : Byte), (∀ b ∈ cs, 128 ≤ b.toNat) → last.toNat < 128 →
      (cs ++ [last]).foldl (fun a b => a * 128 + b.toNat % 128) 0 = v → vlen v ≤ cs.length + 1)

/-- The decoders on any bytes (R403, R404): by where the first byte without a continuation bit stands. `n` is how many continuation
bytes come first. -/
def Obligations.VarintDecode : Prop :=
  ∀ (dec : List Byte → Nat → Nat → VarintOutcome) (maxBytes vmax : Nat),
    (dec = vdec32 ∧ maxBytes = 5 ∧ vmax = 2 ^ 32 - 1 ∨ dec = vdec64 ∧ maxBytes = 9 ∧ vmax = 2 ^ 63 - 1) →
    ∀ (inp : List Byte) (p lim : Nat), p ≤ lim → lim ≤ inp.length →
      (∀ n, p + n < lim → n < maxBytes → (∀ b ∈ (inp.drop p).take n, 128 ≤ b.toNat) →
        (∃ last, inp[p + n]? = some last ∧ last.toNat < 128) →
        let value := ((inp.drop p).take (n + 1)).foldl (fun a b => a * 128 + b.toNat % 128) 0
        dec inp p lim = if value > vmax then .malformed else .ok value (p + n + 1)) ∧
      (lim - p ≤ maxBytes → (∀ b ∈ (inp.drop p).take (lim - p), 128 ≤ b.toNat) → dec inp p lim = .truncated) ∧
      (maxBytes < lim - p → (∀ b ∈ (inp.drop p).take maxBytes, 128 ≤ b.toNat) → dec inp p lim = .malformed)

/-- Round trip, truncation and chunk invariance of varints (R420, R421, R422), through the commands. -/
def Obligations.VarintRoundTrip : Prop :=
  (∀ s d : State, (d.inp.drop d.a0).take (vlen (s.a0 % 2 ^ 32)) = venc (s.a0 % 2 ^ 32) →
    d.a0 + vlen (s.a0 % 2 ^ 32) ≤ d.inLen → d.a1 ≤ d.inLen →
    (d.a0 + vlen (s.a0 % 2 ^ 32) ≤ d.a1 → exec .vdec32 d = .next { d with
      res := { d.res with r0 := w64 (s.a0 % 2 ^ 32), r1 := w64 (d.a0 + vlen (s.a0 % 2 ^ 32)) }, status := .ok }) ∧
    (d.a0 ≤ d.a1 → d.a1 < d.a0 + vlen (s.a0 % 2 ^ 32) → exec .vdec32 d = .next { d with status := .truncated })) ∧
  (∀ s d : State, s.a0 < 2 ^ 63 → (d.inp.drop d.a0).take (vlen s.a0) = venc s.a0 → d.a0 + vlen s.a0 ≤ d.inLen → d.a1 ≤ d.inLen →
    (d.a0 + vlen s.a0 ≤ d.a1 → exec .vdec64 d = .next { d with
      res := { d.res with r0 := s.arg.r0, r1 := w64 (d.a0 + vlen s.a0) }, status := .ok }) ∧
    (d.a0 ≤ d.a1 → d.a1 < d.a0 + vlen s.a0 → exec .vdec64 d = .next { d with status := .truncated })) ∧
  (∀ (dec : List Byte → Nat → Nat → VarintOutcome) (inp more : List Byte) (p lim lim' v q : Nat), dec = vdec32 ∨ dec = vdec64 →
    dec inp p lim = .ok v q →
    (q ≤ lim' → dec (inp ++ more) p lim' = .ok v q) ∧ (p ≤ lim' → lim' < q → dec (inp ++ more) p lim' = .truncated))

/-! ### The code table -/

/-- CT_LOAD_DEFAULT (R510). -/
def Obligations.CtLoadDefaultEffect : Prop :=
  (∀ s : State,
    exec .ctLoadDefault s = .next (
      if s.readerActive = true ∨ s.wrInstCount ≠ 0 then { s with status := .stateError }
      else
        { s with
          ct := defaultCt, nearSize := 4, sameSize := 3, first := buildFirst defaultCt
          second := buildSecond defaultCt (buildFirst defaultCt), tableValid := true, status := .ok })) ∧
  (∀ a ≤ 5, ∀ r ≤ 255, ctByte defaultCt a r = (defaultRow r).byte a)

/-- CT_SET_CACHE (R511). -/
def Obligations.CtSetCacheEffect : Prop :=
  ∀ s : State,
    exec .ctSetCache s = .next (
      if s.readerActive = true ∨ s.wrInstCount ≠ 0 then { s with status := .stateError }
      else if s.a0 > 254 ∨ s.a1 > 254 ∨ s.a0 + s.a1 > 254 then { s with status := .outOfRange }
      else
        { s with
          nearSize := s.arg.r0, sameSize := s.arg.r1, tableValid := false
          res := { s.res with r0 := w64 (1 + s.a0 + s.a1) }, status := .ok })

/-- CT_WRITE (R512): one byte of CT, read back through the model's read of CT, every other byte as before. -/
def Obligations.CtWriteEffect : Prop :=
  ∀ s : State,
    exec .ctWrite s = .next (
      if s.readerActive = true ∨ s.wrInstCount ≠ 0 then { s with status := .stateError }
      else if s.a0 > 5 then { s with status := .illegal }
      else if s.a1 > 255 ∨ s.a2 > 255 then { s with status := .outOfRange }
      else { s with ct := ctSet s.ct s.a0 s.a1 (BitVec.ofNat 8 s.a2), tableValid := false, status := .ok }) ∧
    (s.a0 ≤ 5 → s.a1 ≤ 255 → s.a2 ≤ 255 → ∀ a ≤ 5, ∀ r ≤ 255,
      (ctByte (ctSet s.ct s.a0 s.a1 (BitVec.ofNat 8 s.a2)) a r).toNat =
        if a = s.a0 ∧ r = s.a1 then s.a2 else (ctByte s.ct a r).toNat)

/-- CT_READ (R513). -/
def Obligations.CtReadEffect : Prop :=
  ∀ s : State,
    exec .ctRead s = .next (
      if s.a0 > 5 then { s with status := .illegal }
      else if s.a1 > 255 then { s with status := .outOfRange }
      else { s with res := { s.res with r0 := w64 (ctByte s.ct s.a0 s.a1).toNat }, status := .ok })

/-- CT_COMMIT (R514) and the validation it makes (R503). -/
def Obligations.CtCommitEffect : Prop :=
  (∀ s : State,
    exec .ctCommit s = .next (
      if validate s.ct s.maxMode = true then
        { s with first := buildFirst s.ct, second := buildSecond s.ct (buildFirst s.ct), tableValid := true, status := .ok }
      else { s with status := .malformed })) ∧
  (∀ (ct : List Host.Cell) (maxMode : Nat), validate ct maxMode = true ↔
    (∀ op < 256, ∀ h : Half, h = firstHalf ct op ∨ h = secondHalf ct op →
      h.typ.toNat ≤ 3 ∧ (h.typ.toNat = 0 → h.size = 0) ∧ (h.typ.toNat ≠ 3 → h.mode = 0) ∧
        (h.typ.toNat = 3 → h.mode.toNat ≤ maxMode)) ∧
    (∀ t m : Nat, (t = 1 ∧ m = 0 ∨ t = 2 ∧ m = 0 ∨ t = 3 ∧ m ≤ maxMode) → ∃ op < 256,
      (ctByte ct 0 op).toNat = t ∧ (ctByte ct 4 op).toNat = m ∧ ctByte ct 2 op = 0 ∧ (ctByte ct 1 op).toNat = 0))

/-- The maps hold, for each key, the lowest opcode whose row matches (R504, R505), and the lookups try the exact size, then size 0
(R506). -/
def Obligations.MapsHoldLowest : Prop :=
  (∀ (ct : List Host.Cell) (k size : Nat) (op : Byte),
    let row := fun o : Nat =>
      (firstHalf ct o).typ ≠ 0 ∧ (secondHalf ct o).typ = 0 ∧ instIdx (firstHalf ct o).typ (firstHalf ct o).mode.toNat = k ∧
        (firstHalf ct o).size.toNat = size
    (firstAt (buildFirst ct) k size = some op ↔ row op.toNat ∧ ∀ o < op.toNat, ¬row o) ∧
    (firstAt (buildFirst ct) k size = none ↔ ∀ o < 256, ¬row o)) ∧
  (∀ (ct : List Host.Cell) (fst : List FirstEntry) (f : Byte) (k size : Nat) (op : Byte),
    let row := fun o : Nat =>
      (firstHalf ct o).typ ≠ 0 ∧ (secondHalf ct o).typ ≠ 0 ∧
        firstAt fst (instIdx (firstHalf ct o).typ (firstHalf ct o).mode.toNat) (firstHalf ct o).size.toNat = some f ∧
        instIdx (secondHalf ct o).typ (secondHalf ct o).mode.toNat = k ∧ (secondHalf ct o).size.toNat = size
    (secondAt (buildSecond ct fst) f k size = some op ↔ row op.toNat ∧ ∀ o < op.toNat, ¬row o) ∧
    (secondAt (buildSecond ct fst) f k size = none ↔ ∀ o < 256, ¬row o)) ∧
  (∀ (fst : List FirstEntry) (k size : Nat),
    firstLookup fst k size = if size ≤ 255 ∧ firstAt fst k size ≠ none then firstAt fst k size else firstAt fst k 0) ∧
  (∀ (snd : List SecondEntry) (f : Byte) (k size : Nat),
    secondLookup snd f k size = if size ≤ 255 ∧ secondAt snd f k size ≠ none then secondAt snd f k size else secondAt snd f k 0) ∧
  (∀ (s : State) (typ : Byte) (m size : Nat), InvTable s → s.tableValid = true →
    (typ = typAdd ∧ m = 0 ∨ typ = typRun ∧ m = 0 ∨ typ = typCopy ∧ m ≤ s.maxMode) →
    firstLookup s.first (instIdx typ m) size ≠ none)

/-- MAP_FIRST (R520). Its lookup always finds an opcode: premise, the table invariant. -/
def Obligations.MapFirstEffect : Prop :=
  ∀ s : State, InvTable s → ∃ o : Byte,
    (s.tableValid = true → (s.a0 = 1 ∨ s.a0 = 2 ∨ s.a0 = 3) → ¬((s.a0 ≠ 3 ∧ s.a1 ≠ 0) ∨ (s.a0 = 3 ∧ s.a1 > s.maxMode)) →
      firstLookup s.first (s.a0 + s.a1) s.a2 = some o) ∧
    exec .mapFirst s = .next (
      if s.tableValid = false then { s with status := .stateError }
      else if ¬(s.a0 = 1 ∨ s.a0 = 2 ∨ s.a0 = 3) then { s with status := .malformed }
      else if (s.a0 ≠ 3 ∧ s.a1 ≠ 0) ∨ (s.a0 = 3 ∧ s.a1 > s.maxMode) then { s with status := .malformed }
      else if s.a2 > maxField then { s with status := .outOfRange }
      else
        { s with
          res := { s.res with r0 := w64 o.toNat, r1 := if (firstHalf s.ct o.toNat).size = 0 then 1 else 0 }, status := .ok })

/-- MAP_SECOND (R521). -/
def Obligations.MapSecondEffect : Prop :=
  ∀ s : State,
    exec .mapSecond s = .next (
      if s.tableValid = false then { s with status := .stateError }
      else if s.a0 > 255 then { s with status := .outOfRange }
      else if ¬(s.a1 = 1 ∨ s.a1 = 2 ∨ s.a1 = 3) then { s with status := .malformed }
      else if (s.a1 ≠ 3 ∧ s.a2 ≠ 0) ∨ (s.a1 = 3 ∧ s.a2 > s.maxMode) then { s with status := .malformed }
      else if s.a3 > maxField then { s with status := .outOfRange }
      else
        match secondLookup s.second (BitVec.ofNat 8 s.a0) (s.a1 + s.a2) s.a3 with
        | none => { s with res := { s.res with r0 := 0, r1 := 0, r2 := 0 }, status := .ok }
        | some c =>
          { s with
            res := { s.res with r0 := w64 c.toNat, r1 := if (secondHalf s.ct c.toNat).size = 0 then 1 else 0, r2 := 1 }
            status := .ok })

/-- Forward and reverse lookups agree (R525): the bijection property, with the reader's side of it. -/
def Obligations.ForwardReverse : Prop :=
  ∀ (s : State) (typ : Byte) (m size : Nat), InvTable s → s.tableValid = true →
    (typ = typAdd ∧ m = 0 ∨ typ = typRun ∧ m = 0 ∨ typ = typCopy ∧ m ≤ s.maxMode) → size ≤ maxField →
    (∃ o, firstLookup s.first (instIdx typ m) size = some o ∧ (firstHalf s.ct o.toNat).typ = typ ∧
      (firstHalf s.ct o.toNat).mode.toNat = m ∧ (secondHalf s.ct o.toNat).typ = typNoop ∧
      ((firstHalf s.ct o.toNat).size.toNat = size ∨ (firstHalf s.ct o.toNat).size = 0) ∧
      ∀ (d : State) (rest : List Byte), d.ct = s.ct → d.tableValid = true → d.readerActive = true → d.sessionFailed = false →
        d.pushbackInst = none → d.pendingOp = none → d.rdEnd.toNat ≤ d.inLen →
        d.unread = [o] ++ (if (firstHalf s.ct o.toNat).size = 0 then venc size else []) ++ rest →
        exec .rdGet d = .next (returned d { typ := typ, size := (firstHalf s.ct o.toNat).size, mode := BitVec.ofNat 8 m } none size
          (d.rdEnd.toNat - rest.length))) ∧
    (∀ f c, secondLookup s.second f (instIdx typ m) size = some c →
      firstHalf s.ct c.toNat = firstHalf s.ct f.toNat ∧ (secondHalf s.ct c.toNat).typ = typ ∧
      (secondHalf s.ct c.toNat).mode.toNat = m ∧
      ((secondHalf s.ct c.toNat).size.toNat = size ∨ (secondHalf s.ct c.toNat).size = 0))

/-- The default code table (R320, R526; its rows are general knowledge, log 10): it validates, its maps have the sizes R526 gives, and
every row is the entry of its own key, so no two rows collide. -/
def Obligations.DefaultTable : Prop :=
  validate defaultCt 8 = true ∧ (buildFirst defaultCt).length = 163 ∧
  (buildSecond defaultCt (buildFirst defaultCt)).length = 93 ∧
  (∀ op < 256, firstHalf defaultCt op = (defaultRow op).first ∧ secondHalf defaultCt op = (defaultRow op).second) ∧
  (∀ op < 163, (defaultRow op).second = noopHalf ∧
    firstAt (buildFirst defaultCt) (instIdx (defaultRow op).first.typ (defaultRow op).first.mode.toNat)
      (defaultRow op).first.size.toNat = some (BitVec.ofNat 8 op)) ∧
  (∀ op < 256, 163 ≤ op → ∃ f,
    firstAt (buildFirst defaultCt) (instIdx (defaultRow op).first.typ (defaultRow op).first.mode.toNat)
      (defaultRow op).first.size.toNat = some f ∧
    secondAt (buildSecond defaultCt (buildFirst defaultCt)) f
      (instIdx (defaultRow op).second.typ (defaultRow op).second.mode.toNat) (defaultRow op).second.size.toNat =
      some (BitVec.ofNat 8 op))

/-- Table-write coherence and the mutation refusal (R212, R515). -/
def Obligations.TableCoherence : Prop :=
  (∀ (i : Instr) (s t : State), exec i s = .next t → i = .ctWrite ∨ i = .ctSetCache → t.status = .ok → t.tableValid = false) ∧
  (∀ (i : Instr) (s : State), s.tableValid = false → i ∈ [Instr.mapFirst, .mapSecond, .wrAdd, .wrRun, .wrCopy] →
    exec i s = .next { s with status := .stateError }) ∧
  (∀ (i : Instr) (s : State), s.tableValid = false → s.sessionFailed = false → i = .rdStart ∨ isReaderGet i →
    exec i s = .next { s with status := .stateError }) ∧
  (∀ (i : Instr) (s : State), s.readerActive = true ∨ s.wrInstCount ≠ 0 → i ∈ [Instr.ctWrite, .ctSetCache, .ctLoadDefault] →
    exec i s = .next { s with status := .stateError }) ∧
  (∀ (i : Instr) (s t : State), exec i s = .next t → s.tableValid = false → t.tableValid = true →
    (i = .ctCommit ∨ i = .ctLoadDefault ∨ i = .reset) ∧ t.first = buildFirst t.ct ∧ t.second = buildSecond t.ct t.first)

/-! ### The instruction reader -/

/-- RD_START (R600). -/
def Obligations.RdStartEffect : Prop :=
  ∀ s : State,
    exec .rdStart s = .next (
      if s.sessionFailed = true then { s with status := .sessionFailed }
      else if s.winActive = false ∨ s.tableValid = false then { s with status := .stateError }
      else if ¬(s.w.instStart.toNat ≤ s.a0 ∧ s.a0 ≤ s.a1 ∧ s.a1 ≤ min s.w.addrStart.toNat s.inLen) then
        { s with status := .outOfRange }
      else
        { s with
          rdPos := s.arg.r0, rdEnd := s.arg.r1, pendingOp := none, pushbackInst := none, lastInst := none
          readerActive := true, status := .ok })

/-- RD_EXTEND (R601). -/
def Obligations.RdExtendEffect : Prop :=
  ∀ s : State,
    exec .rdExtend s = .next (
      if s.sessionFailed = true then { s with status := .sessionFailed }
      else if s.readerActive = false then { s with status := .stateError }
      else if ¬(s.rdEnd.toNat ≤ s.a0 ∧ s.a0 ≤ min s.w.addrStart.toNat s.inLen) then { s with status := .outOfRange }
      else { s with rdEnd := s.arg.r0, status := .ok })

/-- RD_SEEK (R602). -/
def Obligations.RdSeekEffect : Prop :=
  ∀ s : State,
    exec .rdSeek s = .next (
      if s.sessionFailed = true then { s with status := .sessionFailed }
      else if s.readerActive = false then { s with status := .stateError }
      else if ¬(s.rdPos.toNat ≤ s.a0 ∧ s.a0 ≤ s.rdEnd.toNat) then { s with status := .outOfRange }
      else { s with rdPos := s.arg.r0, status := .ok })

/-- RD_GET (R604, R603): the refusals, the pushback, the pending half, and the scan over bare NOOPs to the next half. -/
def Obligations.RdGetEffect : Prop :=
  ∀ s : State,
    (s.sessionFailed = true → exec .rdGet s = .next { s with status := .sessionFailed }) ∧
    (s.sessionFailed = false → (s.readerActive = false ∨ s.tableValid = false) →
      exec .rdGet s = .next { s with status := .stateError }) ∧
    (s.sessionFailed = false → s.readerActive = true → s.tableValid = true →
      (∀ r, s.pushbackInst = some r → exec .rdGet s = .next { s with
        pushbackInst := none, lastInst := some r, status := .ok
        res := { r0 := w64 r.typ.toNat, r1 := r.size, r2 := w64 r.mode.toNat, r3 := s.rdPos } }) ∧
      (s.pushbackInst = none →
        (∀ op, s.pendingOp = some op →
          exec .rdGet s = .next (sizedReturn s (secondHalf s.ct op.toNat) none s.rdPos.toNat)) ∧
        (s.pendingOp = none →
          (∀ skipped op rest, s.unread = skipped ++ op :: rest → (∀ b ∈ skipped, bareNoop s.ct b) → ¬bareNoop s.ct op →
            exec .rdGet s = .next
              (sizedReturn s (returnedHalf s.ct op) (pendingAfter s.ct op) (s.rdPos.toNat + skipped.length + 1))) ∧
          ((∀ b ∈ s.unread, bareNoop s.ct b) →
            exec .rdGet s = .next { s with status := .truncated, rdPos := w64 (s.rdPos.toNat + s.unread.length) }))))

/-- The opcode rows, all 256 (R320, R321, R323, R603, and steps 3 and 4 of R604): what the reader does with opcode byte `op` at RD_POS,
on any code table. That a row is an instruction of its own, which acts as the RD_GET that finds `op` at RD_POS whatever byte stands there,
is the model's reading, log 2. The last part is the default table, where the row of every opcode is R320's. -/
def Obligations.OpcodeRows : Prop :=
  ∀ (i : Instr) (op : Byte), i.opcode? = some op → ∀ s : State,
    s.sessionFailed = false → s.readerActive = true → s.tableValid = true → s.pushbackInst = none → s.pendingOp = none →
    s.unread ≠ [] →
    ((returnedHalf s.ct op).typ ≠ typNoop → (returnedHalf s.ct op).size ≠ 0 →
      exec i s = .next
        (returned s (returnedHalf s.ct op) (pendingAfter s.ct op) (returnedHalf s.ct op).size.toNat (s.rdPos.toNat + 1))) ∧
    (∀ v q, (returnedHalf s.ct op).typ ≠ typNoop → (returnedHalf s.ct op).size = 0 →
      vdec32 s.inp (s.rdPos.toNat + 1) s.rdEnd.toNat = .ok v q → v ≤ maxField →
      exec i s = .next (returned s (returnedHalf s.ct op) (pendingAfter s.ct op) v q)) ∧
    ((returnedHalf s.ct op).typ ≠ typNoop →
      exec i s = .next (sizedReturn s (returnedHalf s.ct op) (pendingAfter s.ct op) (s.rdPos.toNat + 1))) ∧
    (∀ b skipped next rest, bareNoop s.ct op → s.unread = b :: (skipped ++ next :: rest) → (∀ x ∈ skipped, bareNoop s.ct x) →
      ¬bareNoop s.ct next →
      exec i s = .next
        (sizedReturn s (returnedHalf s.ct next) (pendingAfter s.ct next) (s.rdPos.toNat + 1 + skipped.length + 1))) ∧
    (∀ b rest, bareNoop s.ct op → s.unread = b :: rest → (∀ x ∈ rest, bareNoop s.ct x) →
      exec i s = .next { s with status := .truncated, rdPos := w64 (s.rdPos.toNat + s.unread.length) }) ∧
    (s.ct = defaultCt →
      returnedHalf s.ct op = (defaultRow op.toNat).first ∧
      pendingAfter s.ct op = if op.toNat ≤ 162 then none else some op)

/-- RD_UNGET (R605). -/
def Obligations.RdUngetEffect : Prop :=
  ∀ s : State,
    exec .rdUnget s = .next (
      if s.sessionFailed = true then { s with status := .sessionFailed }
      else if s.readerActive = false ∨ s.lastInst = none ∨ s.pushbackInst ≠ none then { s with status := .stateError }
      else { s with pushbackInst := s.lastInst, lastInst := none, status := .ok })

/-- Chunk invariance of the reader (R606, R213). `s` has fewer bytes than `s'`, which is the same state with IN longer and RD_END
further on. If RD_GET on `s` is not TRUNCATED, it ends the same on `s'`. If RD_GET is TRUNCATED on `s` and ends OK on `s'`, then a retry
after the bytes arrive gives what the RD_GET on `s'` gives. -/
def Obligations.ReaderChunkInvariance : Prop :=
  ∀ (s t s' : State) (more : List Byte) (limit : Word),
    s.rdPos.toNat ≤ s.rdEnd.toNat → s.rdEnd.toNat ≤ s.inLen → s.rdEnd.toNat ≤ limit.toNat →
    limit.toNat ≤ s.inLen + more.length → s' = { s with inp := s.inp ++ more, rdEnd := limit } →
    exec .rdGet s = .next t →
    (t.status ≠ .truncated → exec .rdGet s' = .next { t with inp := s.inp ++ more, rdEnd := limit }) ∧
    (∀ u, t.status = .truncated → exec .rdGet s' = .next u → u.status = .ok →
      exec .rdGet { t with inp := s.inp ++ more, rdEnd := limit } = .next u)

/-! ### The window writer -/

/-- WR_ADD (R703, with R700, R701, R702). -/
def Obligations.WrAddEffect : Prop :=
  ∀ s : State, InvTable s →
    exec .wrAdd s = .next (
      if s.encOpen = false then { s with status := .stateError }
      else if s.tableValid = false then { s with status := .stateError }
      else if s.a0 + s.a1 > s.inLen then { s with status := .outOfRange }
      else written s typAdd s.a1 0 true ((s.inp.drop s.a0).take s.a1))

/-- WR_RUN (R705, with R700, R701, R702). -/
def Obligations.WrRunEffect : Prop :=
  ∀ s : State, InvTable s →
    exec .wrRun s = .next (
      if s.encOpen = false then { s with status := .stateError }
      else if s.tableValid = false then { s with status := .stateError }
      else if s.a0 > 255 then { s with status := .outOfRange }
      else if s.a1 > maxField then { s with status := .outOfRange }
      else written s typRun s.a1 0 true [BitVec.ofNat 8 s.a0])

/-- WR_COPY (R704, with R700, R701, R702, R344). -/
def Obligations.WrCopyEffect : Prop :=
  ∀ s : State, InvTable s →
    exec .wrCopy s = .next (
      if s.encOpen = false then { s with status := .stateError }
      else if s.tableValid = false then { s with status := .stateError }
      else if s.a1 > s.maxMode then { s with status := .malformed }
      else if s.a0 > maxField then { s with status := .outOfRange }
      else if 2 + s.nearSize.toNat ≤ s.a1 then
        if s.a2 > 255 then { s with status := .outOfRange }
        else written s typCopy s.a0 s.a1 false [BitVec.ofNat 8 s.a2]
      else
        if s.a2 > maxField then { s with status := .outOfRange }
        else written s typCopy s.a0 s.a1 false (venc s.a2))

/-- WR_OUTPUT (R706), the window in R340's order, and the lengths of R721. -/
def Obligations.WrOutputEffect : Prop :=
  ∀ s : State,
    let body := venc s.wrTargetLen.toNat ++ [0x00] ++ venc s.data.length ++ venc s.insts.length ++ venc s.addrs.length
      ++ (if s.wrChecksum = true then venc s.a3 else []) ++ s.data ++ s.insts ++ s.addrs
    let win := [BitVec.ofNat 8 (s.a0 + if s.wrChecksum = true then 4 else 0)]
      ++ (if s.a0 ≠ 0 then venc s.a1 ++ venc s.a2 else []) ++ venc body.length ++ body
    exec .wrOutput s = .next (
      if s.encOpen = false then { s with status := .stateError }
      else if ¬(s.a0 = 0 ∨ s.a0 = 1 ∨ s.a0 = 2) then { s with status := .malformed }
      else if s.a0 ≠ 0 ∧ ¬(s.a1 ≤ maxField ∧ s.a2 ≤ maxField ∧ s.a1 + s.a2 ≤ maxField) then { s with status := .outOfRange }
      else if s.wrChecksum = true ∧ s.a3 > 2 ^ 32 - 1 then { s with status := .outOfRange }
      else if s.wrInstCount = 0 then { s with res := { s.res with r0 := 0 }, status := .ok }
      else if body.length > maxField then { s with status := .outOfRange }
      else
        { s with
          out := s.out ++ win, data := [], insts := [], addrs := [], wrLast := none, wrInstCount := 0, wrTargetLen := 0
          res := { s.res with r0 := w64 win.length }, status := .ok }) ∧
    body.length = vlen s.wrTargetLen.toNat + 1 + vlen s.data.length + vlen s.insts.length + vlen s.addrs.length
      + (if s.wrChecksum = true then vlen s.a3 else 0) + s.data.length + s.insts.length + s.addrs.length ∧
    win.length = 1 + (if s.a0 ≠ 0 then vlen s.a1 + vlen s.a2 else 0) + vlen body.length + body.length

/-- WR_DISCARD (R707). -/
def Obligations.WrDiscardEffect : Prop :=
  ∀ s : State, exec .wrDiscard s = .next { s with
    data := [], insts := [], addrs := [], wrLast := none, wrInstCount := 0, wrTargetLen := 0, status := .ok }

/-- FH_WRITE (R710). The bytes are those of R330 to R332, which the spec supplies from general knowledge in part (log 10). -/
def Obligations.FhWriteEffect : Prop :=
  ∀ s : State,
    let ver : Byte := if s.wrInterleaved = true ∨ s.wrChecksum = true then 0x53 else 0x00
    let header : List Byte :=
      if s.a0 = 0 then [0xD6, 0xC3, 0xC4, ver, 0x00]
      else [0xD6, 0xC3, 0xC4, ver, 0x02] ++ venc (s.a1 + 2)
        ++ [BitVec.ofNat 8 s.nearSize.toNat, BitVec.ofNat 8 s.sameSize.toNat]
    exec .fhWrite s = .next (
      if s.encOpen = true then { s with status := .stateError }
      else if s.a0 > 1 then { s with status := .illegal }
      else if s.a0 = 1 ∧ s.tableValid = false then { s with status := .stateError }
      else if s.a0 = 1 ∧ s.a1 > maxField - 2 then { s with status := .outOfRange }
      else
        { s with out := s.out ++ header, encOpen := true, res := { s.res with r0 := w64 header.length }, status := .ok })

/-- The writer and the reader agree (R720, R525): what any sequence of writer commands puts into the instructions section, the reader
gives back, instruction by instruction, with the same types, sizes and modes; in the interleaved layout with the RD_SEEK protocol of
R607. After the last one RD_GET is TRUNCATED and nothing is pending. In the standard layout the data and addresses sections are the
payloads in order. -/
def Obligations.WriterReaderRoundTrip : Prop :=
  ∀ (ops : List WriterOp) (s t d : State), Inv s → s.wrInstCount = 0 → Writes ops s t →
    d.ct = s.ct → d.tableValid = true → d.readerActive = true → d.sessionFailed = false → d.pushbackInst = none →
    d.pendingOp = none → d.rdPos.toNat ≤ d.rdEnd.toNat → d.rdEnd.toNat ≤ d.inLen → d.unread = t.insts →
    (∃ e, Reads s.wrInterleaved (ops.map (fun op => (op.record, (op.payload s).length))) d e ∧
      e.rdPos = d.rdEnd ∧ e.pendingOp = none ∧ e.pushbackInst = none ∧
      exec .rdGet e = .next { e with status := .truncated }) ∧
    (s.wrInterleaved = false →
      t.data = (ops.filter WriterOp.isData).flatMap (fun op => op.payload s) ∧
      t.addrs = (ops.filter (fun op => !op.isData)).flatMap (fun op => op.payload s)) ∧
    (s.wrInterleaved = true → t.data = [] ∧ t.addrs = [])

/-! ### The parsers -/

/-- FH_PARSE (R801). -/
def Obligations.FhParseEffect : Prop :=
  ∀ s : State,
    let p := s.a0
    exec .fhParse s = .next (
      if s.sessionFailed = true then { s with status := .sessionFailed }
      else if s.decOpen = true then { s with status := .stateError }
      else if s.a0 > s.inLen then { s with status := .outOfRange }
      else
        onByte s p fun b0 => if b0 ≠ 0xD6 then failedStream s .malformed else
        onByte s (p + 1) fun b1 => if b1 ≠ 0xC3 then failedStream s .malformed else
        onByte s (p + 2) fun b2 => if b2 ≠ 0xC4 then failedStream s .malformed else
        onByte s (p + 3) fun ver => if ¬(ver = 0x00 ∨ ver = 0x53) then failedStream s .unsupported else
        onByte s (p + 4) fun hi =>
          if hi.toNat ≥ 4 then failedStream s .malformed
          else if hi.toNat % 2 = 1 then failedStream s .unsupported
          else if hi.toNat = 0 then
            { s with
              decOpen := true, extAllowed := ver == 0x53, res := { r0 := w64 (p + 5), r1 := 0, r2 := 0, r3 := 0 }, status := .ok }
          else
            onField s (p + 5) fun len q => if len < 2 then failedStream s .malformed else
            onByte s q fun near =>
            onByte s (q + 1) fun same =>
              if near.toNat + same.toNat > 254 then failedStream s .malformed
              else
                { s with
                  decOpen := true, extAllowed := ver == 0x53, status := .ok
                  res := { r0 := w64 (q + 2), r1 := 1, r2 := w64 (len - 2), r3 := w64 (near.toNat + 256 * same.toNat) } })

/-- WH_PARSE (R810) with its checks in wire order (R811 to R818). -/
def Obligations.WhParseEffect : Prop :=
  ∀ s : State,
    let rest := fun (wi : Byte) (sl sp p : Nat) =>
      onField s p fun dlen q0 =>
      onField s q0 fun tws p =>
        if tws > s.maxWindowSize.toNat then failedStream s .outOfRange
        else if s.decTargetTotal.toNat + tws > s.maxFileSize.toNat then failedStream s .outOfRange
        else
          onByte s p fun di =>
            if di.toNat / 8 ≠ 0 then failedStream s .malformed
            else if di.toNat % 8 ≠ 0 then failedStream s .unsupported
            else
              onField s (p + 1) fun dl p =>
              onField s p fun il p =>
              onField s p fun al p =>
                let finish := fun (ck q1 : Nat) =>
                  if (q1 - q0) + dl + il + al ≠ dlen then failedStream s .malformed
                  else
                    { s with
                      w :=
                        { indicator := w64 wi.toNat, srcLen := w64 sl, srcPos := w64 sp, deltaLen := w64 dlen
                          targetSize := w64 tws, deltaInd := w64 di.toNat, dataLen := w64 dl, instLen := w64 il
                          addrLen := w64 al, checksum := w64 ck, dataStart := w64 q1, instStart := w64 (q1 + dl)
                          addrStart := w64 (q1 + dl + il), windowEnd := w64 (q1 + dl + il + al)
                          layout := BitVec.ofNat 2 ((if s.extAllowed = true ∧ dl = 0 ∧ al = 0 then 1 else 0)
                            + (if wi.getLsbD 2 = true then 2 else 0)) }
                      winActive := true, status := .ok
                      res := { s.res with r0 := w64 q1, r1 := w64 (q1 + dl + il + al) } }
                if wi.getLsbD 2 = true then onVarint s p finish else finish 0 p
    exec .whParse s = .next (
      if s.sessionFailed = true then { s with status := .sessionFailed }
      else if s.decOpen = false ∨ s.winActive = true then { s with status := .stateError }
      else if s.a0 > s.inLen then { s with status := .outOfRange }
      else
        onByte s s.a0 fun wi =>
          if wi.toNat / 8 ≠ 0 then failedStream s .malformed
          else if wi.getLsbD 0 = true ∧ wi.getLsbD 1 = true then failedStream s .malformed
          else if wi.getLsbD 2 = true ∧ s.extAllowed = false then failedStream s .malformed
          else if wi.getLsbD 1 = true ∧ s.allowVcdTarget = false then failedStream s .unsupported
          else if wi.getLsbD 0 = true ∨ wi.getLsbD 1 = true then
            onField s (s.a0 + 1) fun sl p =>
            onField s p fun sp p =>
              if sl + sp > maxField then failedStream s .malformed
              else if sl + sp > (if wi.getLsbD 0 = true then s.dictSize.toNat else s.decTargetTotal.toNat) then
                failedStream s .outOfRange
              else rest wi sl sp p
          else rest wi 0 0 (s.a0 + 1))

/-- WIN_END (R820). -/
def Obligations.WinEndEffect : Prop :=
  ∀ s : State,
    exec .winEnd s = .next (
      if s.sessionFailed = true then { s with status := .sessionFailed }
      else if s.winActive = false then { s with status := .stateError }
      else if s.readerActive = false ∧ s.w.instLen ≠ 0 then { s with status := .stateError }
      else if s.w.windowEnd.toNat > s.inLen then { s with status := .truncated }
      else if s.readerActive = true ∧ (s.rdPos ≠ s.w.addrStart ∨ s.pendingOp ≠ none ∨ s.pushbackInst ≠ none) then
        failedStream s .malformed
      else if s.arg.r0 ≠ s.w.targetSize then failedStream s .malformed
      else
        { s with
          decTargetTotal := s.decTargetTotal + s.w.targetSize, winActive := false, readerActive := false, pendingOp := none
          pushbackInst := none, lastInst := none, res := { s.res with r0 := s.w.windowEnd }, status := .ok })

/-- Headers written are headers read (R720, R710 with R801, R706 with R810): FH_PARSE takes what FH_WRITE appended, and WH_PARSE takes
what WR_OUTPUT appended, with every W_ field as it was written (the delta length by R721) and the three sections at the W_ positions. -/
def Obligations.HeaderRoundTrips : Prop :=
  (∀ (s t d : State) (header rest : List Byte), Inv s → exec .fhWrite s = .next t → t.status = .ok → t.out = s.out ++ header →
    d.sessionFailed = false → d.decOpen = false → d.inLen < 2 ^ 64 → d.inp.drop d.a0 = header ++ rest →
    exec .fhParse d = .next { d with
      decOpen := true, extAllowed := s.wrInterleaved || s.wrChecksum, status := .ok
      res :=
        { r0 := w64 (d.a0 + header.length), r1 := s.arg.r0, r2 := if s.a0 = 1 then s.arg.r1 else 0
          r3 := if s.a0 = 1 then w64 (s.nearSize.toNat + 256 * s.sameSize.toNat) else 0 } }) ∧
  (∀ (s t d : State) (win rest : List Byte), Inv s → exec .wrOutput s = .next t → t.status = .ok → s.wrInstCount ≠ 0 →
    t.out = s.out ++ win →
    d.sessionFailed = false → d.decOpen = true → d.winActive = false → d.inLen < 2 ^ 63 → d.inp.drop d.a0 = win ++ rest →
    (s.wrChecksum = true → d.extAllowed = true) → (s.a0 = 2 → d.allowVcdTarget = true) →
    (s.a0 = 1 → s.a1 + s.a2 ≤ d.dictSize.toNat) → (s.a0 = 2 → s.a1 + s.a2 ≤ d.decTargetTotal.toNat) →
    s.wrTargetLen.toNat ≤ d.maxWindowSize.toNat → d.decTargetTotal.toNat + s.wrTargetLen.toNat ≤ d.maxFileSize.toNat →
    ∃ u, exec .whParse d = .next u ∧ u.status = .ok ∧ u.winActive = true ∧
      u.w.indicator.toNat = s.a0 + (if s.wrChecksum = true then 4 else 0) ∧
      u.w.srcLen = (if s.a0 = 0 then 0 else s.arg.r1) ∧ u.w.srcPos = (if s.a0 = 0 then 0 else s.arg.r2) ∧
      u.w.deltaLen.toNat = vlen s.wrTargetLen.toNat + 1 + vlen s.data.length + vlen s.insts.length + vlen s.addrs.length
        + (if s.wrChecksum = true then vlen s.a3 else 0) + s.data.length + s.insts.length + s.addrs.length ∧
      u.w.targetSize = s.wrTargetLen ∧ u.w.deltaInd = 0 ∧ u.w.dataLen.toNat = s.data.length ∧
      u.w.instLen.toNat = s.insts.length ∧ u.w.addrLen.toNat = s.addrs.length ∧
      u.w.checksum = (if s.wrChecksum = true then s.arg.r3 else 0) ∧ u.w.windowEnd.toNat = d.a0 + win.length ∧
      u.w.hasChecksum = s.wrChecksum ∧ u.w.interleaved = (d.extAllowed && s.data.isEmpty && s.addrs.isEmpty) ∧
      (u.inp.drop u.w.dataStart.toNat).take s.data.length = s.data ∧
      (u.inp.drop u.w.instStart.toNat).take s.insts.length = s.insts ∧
      (u.inp.drop u.w.addrStart.toNat).take s.addrs.length = s.addrs)

/-! ### Rules of the whole machine -/

/-- Failures are precise (R1002): a status other than OK means no other change, but for SESSION_FAILED and for the NOOP bytes an
exhausted RD_GET has skipped. -/
def Obligations.FailuresPrecise : Prop :=
  ∀ (i : Instr) (s t : State), exec i s = .next t → t.status ≠ .ok →
    t = { s with status := t.status, sessionFailed := t.sessionFailed, rdPos := t.rdPos } ∧
    (t.sessionFailed ≠ s.sessionFailed → s.sessionFailed = false ∧ readsStream i ∧
      (t.status = .malformed ∨ t.status = .outOfRange ∨ t.status = .unsupported)) ∧
    (t.rdPos ≠ s.rdPos → isReaderGet i ∧ t.status = .truncated ∧ s.pendingOp = none ∧ s.pushbackInst = none ∧
      t.rdPos = w64 (s.rdPos.toNat + s.unread.length) ∧ (i = .rdGet → ∀ b ∈ s.unread, bareNoop s.ct b))

/-- Stream-content errors (R1003): exactly the MALFORMED, OUT_OF_RANGE and UNSUPPORTED endings that the bytes of IN cause in FH_PARSE,
WH_PARSE, RD_GET and WIN_END set SESSION_FAILED, and nothing else does. -/
def Obligations.StreamErrors : Prop :=
  ∀ (i : Instr) (s t : State), exec i s = .next t → s.sessionFailed = false →
    (t.sessionFailed = true ↔ readsStream i ∧
      (t.status = .malformed ∨ t.status = .unsupported ∨ (t.status = .outOfRange ∧ s.a0 ≤ s.inLen)))

/-- The sticky failure (R1004): while SESSION_FAILED = 1 the decode-side commands are refused before any other check, no other command
is, none but RESET clears it, and the other commands do what they do without it. -/
def Obligations.StickyFailure : Prop :=
  ∀ (i : Instr) (s : State),
    (isDecodeSide i → s.sessionFailed = true → exec i s = .next { s with status := .sessionFailed }) ∧
    (∀ t, exec i s = .next t → s.sessionFailed = true → t.sessionFailed = false → i = .reset) ∧
    (∀ t, ¬isDecodeSide i → exec i s = .next t → t.status ≠ .sessionFailed) ∧
    (∀ t, ¬isDecodeSide i → i ≠ .reset → i ≠ .regRead → exec i { s with sessionFailed := false } = .next t →
      exec i { s with sessionFailed := true } = .next { t with sessionFailed := true })

/-- Every command is total (R1007), so a step stops only where the host reads a byte that does not exist (log 11). -/
def Obligations.Totality : Prop :=
  (∀ (i : Instr) (s : State), ∃ t, exec i s = .next t) ∧
  (∀ s : State, (∃ t, step s = .next t) ∨
    (∃ p rest, s.host = .readOut p :: rest ∧ s.outLen ≤ p ∧ step s = .fault .outByteAbsent) ∨
    (∃ p rest, s.host = .readIn p :: rest ∧ s.inLen ≤ p ∧ step s = .fault .inByteAbsent))

/-- IN is append-only (R201): no command changes a byte once it is written, only IN_APPEND adds one, and only RESET empties IN. -/
def Obligations.InAppendOnly : Prop :=
  (∀ (i : Instr) (s t : State), exec i s = .next t →
    (i = .reset ∧ t.inp = []) ∨
    (i = .inAppend ∧ t.status = .ok ∧ t.inp = s.inp ++ [BitVec.ofNat 8 s.a0]) ∨
    (i ≠ .reset ∧ t.inp = s.inp)) ∧
  (∀ s t : State, step s = .next t → (∃ rest, s.host = .writeCmd 0x7F :: rest) ∨
    (s.inLen ≤ t.inLen ∧ ∀ p < s.inLen, t.readByte .inp p = s.readByte .inp p))

/-- OUT is append-only (R202): only four commands append, only when they end OK, RES0 counts the bytes, only RESET empties OUT, and a
host's read leaves it. -/
def Obligations.OutAppendOnly : Prop :=
  (∀ (i : Instr) (s t : State), exec i s = .next t → i ≠ .reset →
    ∃ bytes, t.out = s.out ++ bytes ∧
      (bytes ≠ [] → t.status = .ok ∧ t.res.r0 = w64 bytes.length ∧
        (i = .venc32 ∨ i = .venc64 ∨ i = .wrOutput ∨ i = .fhWrite))) ∧
  (∀ s t : State, step s = .next t → (∃ rest, s.host = .writeCmd 0x7F :: rest) ∨
    (s.outLen ≤ t.outLen ∧ ∀ p < s.outLen, t.readByte .out p = s.readByte .out p))

/-- FLAGS (R104): each bit is set and cleared only by the commands its row names, and the reserved bits read 0. -/
def Obligations.FlagWriters : Prop :=
  (∀ (i : Instr) (s t : State), exec i s = .next t →
    (t.tableValid ≠ s.tableValid → t.status = .ok ∧
      (t.tableValid = true ∧ i ∈ [Instr.ctCommit, .ctLoadDefault, .reset] ∨
        t.tableValid = false ∧ i ∈ [Instr.ctSetCache, .ctWrite])) ∧
    (t.readerActive ≠ s.readerActive → t.status = .ok ∧
      (t.readerActive = true ∧ i = .rdStart ∨ t.readerActive = false ∧ i ∈ [Instr.winEnd, .reset])) ∧
    (t.winActive ≠ s.winActive → t.status = .ok ∧
      (t.winActive = true ∧ i = .whParse ∨ t.winActive = false ∧ i ∈ [Instr.winEnd, .reset])) ∧
    (t.decOpen ≠ s.decOpen → t.status = .ok ∧ (t.decOpen = true ∧ i = .fhParse ∨ t.decOpen = false ∧ i = .reset)) ∧
    (t.encOpen ≠ s.encOpen → t.status = .ok ∧ (t.encOpen = true ∧ i = .fhWrite ∨ t.encOpen = false ∧ i = .reset)) ∧
    (t.extAllowed = true → s.extAllowed = false → t.status = .ok ∧ i = .fhParse ∧ s.inp[s.a0 + 3]? = some 0x53) ∧
    (InvSession s → t.extAllowed = false → s.extAllowed = true → i = .reset) ∧
    (t.sessionFailed ≠ s.sessionFailed → t.sessionFailed = true ∧ readsStream i ∨ t.sessionFailed = false ∧ i = .reset) ∧
    (t.pendingOp ≠ s.pendingOp → t.status = .ok ∧
      ((∃ op, t.pendingOp = some op ∧ isReaderGet i ∧ (firstHalf s.ct op.toNat).typ ≠ typNoop ∧
          (secondHalf s.ct op.toNat).typ ≠ typNoop ∧ t.res.r0 = w64 (firstHalf s.ct op.toNat).typ.toNat) ∨
        (t.pendingOp = none ∧ (isReaderGet i ∨ i ∈ [Instr.rdStart, .winEnd, .reset])))) ∧
    (t.pushbackInst ≠ s.pushbackInst → t.status = .ok ∧
      ((t.pushbackInst = s.lastInst ∧ i = .rdUnget) ∨
        (t.pushbackInst = none ∧ (isReaderGet i ∨ i ∈ [Instr.rdStart, .winEnd, .reset])))) ∧
    (t.lastInst ≠ s.lastInst → t.status = .ok ∧
      ((t.lastInst ≠ none ∧ isReaderGet i) ∨ (t.lastInst = none ∧ i ∈ [Instr.rdUnget, .rdStart, .winEnd, .reset])))) ∧
  (∀ s : State, s.flags < 2 ^ 10) ∧ (∀ cfg, (State.resetWith cfg).flags = 0x001)

/-- Which commands write which of the other registers and memories (R100, R105, R108, R109, R110, R112, R113). Everything else a command
leaves as it was, the parameters always (R117). That no command, RESET included, changes the host's side (`host`, `hostData`,
`freeReads`) is the model's choice, log 16; that RESET writes CMD is log 4. -/
def Obligations.RegisterWriters : Prop :=
  ∀ (i : Instr) (s t : State), exec i s = .next t →
    (t.arg ≠ s.arg ∨ t.cmd ≠ s.cmd → i = .reset) ∧ t.cfg = s.cfg ∧ t.host = s.host ∧ t.hostData = s.hostData ∧ t.freeReads = s.freeReads ∧
    (t.res ≠ s.res → t.status = .ok) ∧
    (t.ctrl ≠ s.ctrl ∨ t.dictSize ≠ s.dictSize ∨ t.maxWindowSize ≠ s.maxWindowSize ∨ t.maxFileSize ≠ s.maxFileSize →
      i = .regWrite ∨ i = .reset) ∧
    (t.nearSize ≠ s.nearSize ∨ t.sameSize ≠ s.sameSize → i = .ctSetCache ∨ i = .ctLoadDefault ∨ i = .reset) ∧
    (t.ct ≠ s.ct → i = .ctWrite ∨ i = .ctLoadDefault ∨ i = .reset) ∧
    (t.first ≠ s.first ∨ t.second ≠ s.second → i = .ctCommit ∨ i = .ctLoadDefault ∨ i = .reset) ∧
    (t.w ≠ s.w → i = .whParse ∨ i = .reset) ∧
    (t.decTargetTotal ≠ s.decTargetTotal → i = .winEnd ∨ i = .reset) ∧
    (t.rdPos ≠ s.rdPos → i = .rdStart ∨ i = .rdSeek ∨ isReaderGet i ∨ i = .reset) ∧
    (t.rdEnd ≠ s.rdEnd → i = .rdStart ∨ i = .rdExtend ∨ i = .reset) ∧
    (t.data ≠ s.data ∨ t.insts ≠ s.insts ∨ t.addrs ≠ s.addrs ∨ t.wrLast ≠ s.wrLast ∨ t.wrInstCount ≠ s.wrInstCount ∨
      t.wrTargetLen ≠ s.wrTargetLen → i ∈ [Instr.wrAdd, .wrRun, .wrCopy, .wrOutput, .wrDiscard, .reset])

/-- The memory frame of every instruction, through the read of one byte (R200): which bytes of IN, OUT and CT it can change. -/
def Obligations.MemoryFrames : Prop :=
  ∀ (i : Instr) (s t : State), exec i s = .next t →
    (i ∉ [Instr.venc32, .venc64, .wrOutput, .fhWrite, .inAppend, .ctWrite, .ctLoadDefault, .reset] →
      ∀ m a, t.readByte m a = s.readByte m a) ∧
    (i ∈ [Instr.venc32, .venc64, .wrOutput, .fhWrite] →
      (∀ a, t.readByte .inp a = s.readByte .inp a) ∧ (∀ a, t.readByte .ct a = s.readByte .ct a) ∧
      (∀ a < s.outLen, t.readByte .out a = s.readByte .out a)) ∧
    (i = .inAppend →
      (∀ a, t.readByte .out a = s.readByte .out a) ∧ (∀ a, t.readByte .ct a = s.readByte .ct a) ∧
      (∀ a, a ≠ s.inLen → t.readByte .inp a = s.readByte .inp a)) ∧
    (i = .ctWrite →
      (∀ a, t.readByte .inp a = s.readByte .inp a) ∧ (∀ a, t.readByte .out a = s.readByte .out a) ∧
      (∀ a, a ≠ ctAddr s.a0 s.a1 → t.readByte .ct a = s.readByte .ct a)) ∧
    (i = .ctLoadDefault → (∀ a, t.readByte .inp a = s.readByte .inp a) ∧ (∀ a, t.readByte .out a = s.readByte .out a)) ∧
    (i = .reset → (∀ a, t.readByte .inp a = none) ∧ (∀ a, t.readByte .out a = none))

/-- The invariant holds at reset, for all parameters in range. -/
def Obligations.InvAtReset : Prop := (∀ cfg : Config, cfg.wf → Inv (State.resetWith cfg)) ∧ Inv State.reset

/-- Every step keeps the table invariant: the maps in use are always those of a validated table (R212, R503). -/
def Obligations.InvTableStep : Prop := ∀ s t : State, InvTable s → step s = .next t → InvTable t

/-- Every step keeps the invariant. -/
def Obligations.InvStep : Prop := ∀ s t : State, Inv s → step s = .next t → Inv t
end

