-- ==== Sys2Proof/Laws/State.lean ====
section
/-! SUPPORT. One lemma per field per named update of State, true by `rfl`, so that no later proof unfolds an update. -/

namespace Sys2Proof.Machine

variable (s : State)

@[simp] theorem outAppend_arg (b : List Byte) : (s.outAppend b).arg = s.arg := rfl
@[simp] theorem outAppend_res (b : List Byte) : (s.outAppend b).res = s.res := rfl
@[simp] theorem outAppend_cmd (b : List Byte) : (s.outAppend b).cmd = s.cmd := rfl
@[simp] theorem outAppend_status (b : List Byte) : (s.outAppend b).status = s.status := rfl
@[simp] theorem outAppend_ctrl (b : List Byte) : (s.outAppend b).ctrl = s.ctrl := rfl
@[simp] theorem outAppend_dictSize (b : List Byte) : (s.outAppend b).dictSize = s.dictSize := rfl
@[simp] theorem outAppend_maxWindowSize (b : List Byte) : (s.outAppend b).maxWindowSize = s.maxWindowSize := rfl
@[simp] theorem outAppend_maxFileSize (b : List Byte) : (s.outAppend b).maxFileSize = s.maxFileSize := rfl
@[simp] theorem outAppend_nearSize (b : List Byte) : (s.outAppend b).nearSize = s.nearSize := rfl
@[simp] theorem outAppend_sameSize (b : List Byte) : (s.outAppend b).sameSize = s.sameSize := rfl
@[simp] theorem outAppend_decTargetTotal (b : List Byte) : (s.outAppend b).decTargetTotal = s.decTargetTotal := rfl
@[simp] theorem outAppend_tableValid (b : List Byte) : (s.outAppend b).tableValid = s.tableValid := rfl
@[simp] theorem outAppend_readerActive (b : List Byte) : (s.outAppend b).readerActive = s.readerActive := rfl
@[simp] theorem outAppend_winActive (b : List Byte) : (s.outAppend b).winActive = s.winActive := rfl
@[simp] theorem outAppend_decOpen (b : List Byte) : (s.outAppend b).decOpen = s.decOpen := rfl
@[simp] theorem outAppend_encOpen (b : List Byte) : (s.outAppend b).encOpen = s.encOpen := rfl
@[simp] theorem outAppend_extAllowed (b : List Byte) : (s.outAppend b).extAllowed = s.extAllowed := rfl
@[simp] theorem outAppend_sessionFailed (b : List Byte) : (s.outAppend b).sessionFailed = s.sessionFailed := rfl
@[simp] theorem outAppend_ct (b : List Byte) : (s.outAppend b).ct = s.ct := rfl
@[simp] theorem outAppend_first (b : List Byte) : (s.outAppend b).first = s.first := rfl
@[simp] theorem outAppend_second (b : List Byte) : (s.outAppend b).second = s.second := rfl
@[simp] theorem outAppend_rdPos (b : List Byte) : (s.outAppend b).rdPos = s.rdPos := rfl
@[simp] theorem outAppend_rdEnd (b : List Byte) : (s.outAppend b).rdEnd = s.rdEnd := rfl
@[simp] theorem outAppend_pendingOp (b : List Byte) : (s.outAppend b).pendingOp = s.pendingOp := rfl
@[simp] theorem outAppend_pushbackInst (b : List Byte) : (s.outAppend b).pushbackInst = s.pushbackInst := rfl
@[simp] theorem outAppend_lastInst (b : List Byte) : (s.outAppend b).lastInst = s.lastInst := rfl
@[simp] theorem outAppend_data (b : List Byte) : (s.outAppend b).data = s.data := rfl
@[simp] theorem outAppend_insts (b : List Byte) : (s.outAppend b).insts = s.insts := rfl
@[simp] theorem outAppend_addrs (b : List Byte) : (s.outAppend b).addrs = s.addrs := rfl
@[simp] theorem outAppend_wrLast (b : List Byte) : (s.outAppend b).wrLast = s.wrLast := rfl
@[simp] theorem outAppend_wrInstCount (b : List Byte) : (s.outAppend b).wrInstCount = s.wrInstCount := rfl
@[simp] theorem outAppend_wrTargetLen (b : List Byte) : (s.outAppend b).wrTargetLen = s.wrTargetLen := rfl
@[simp] theorem outAppend_w (b : List Byte) : (s.outAppend b).w = s.w := rfl
@[simp] theorem outAppend_inp (b : List Byte) : (s.outAppend b).inp = s.inp := rfl
@[simp] theorem outAppend_out (b : List Byte) : (s.outAppend b).out = s.out ++ b := rfl
@[simp] theorem outAppend_cfg (b : List Byte) : (s.outAppend b).cfg = s.cfg := rfl
@[simp] theorem outAppend_host (b : List Byte) : (s.outAppend b).host = s.host := rfl
@[simp] theorem outAppend_hostData (b : List Byte) : (s.outAppend b).hostData = s.hostData := rfl
@[simp] theorem outAppend_freeReads (b : List Byte) : (s.outAppend b).freeReads = s.freeReads := rfl

@[simp] theorem inAppend_arg (b : Byte) : (s.inAppend b).arg = s.arg := rfl
@[simp] theorem inAppend_res (b : Byte) : (s.inAppend b).res = s.res := rfl
@[simp] theorem inAppend_cmd (b : Byte) : (s.inAppend b).cmd = s.cmd := rfl
@[simp] theorem inAppend_status (b : Byte) : (s.inAppend b).status = s.status := rfl
@[simp] theorem inAppend_ctrl (b : Byte) : (s.inAppend b).ctrl = s.ctrl := rfl
@[simp] theorem inAppend_dictSize (b : Byte) : (s.inAppend b).dictSize = s.dictSize := rfl
@[simp] theorem inAppend_maxWindowSize (b : Byte) : (s.inAppend b).maxWindowSize = s.maxWindowSize := rfl
@[simp] theorem inAppend_maxFileSize (b : Byte) : (s.inAppend b).maxFileSize = s.maxFileSize := rfl
@[simp] theorem inAppend_nearSize (b : Byte) : (s.inAppend b).nearSize = s.nearSize := rfl
@[simp] theorem inAppend_sameSize (b : Byte) : (s.inAppend b).sameSize = s.sameSize := rfl
@[simp] theorem inAppend_decTargetTotal (b : Byte) : (s.inAppend b).decTargetTotal = s.decTargetTotal := rfl
@[simp] theorem inAppend_tableValid (b : Byte) : (s.inAppend b).tableValid = s.tableValid := rfl
@[simp] theorem inAppend_readerActive (b : Byte) : (s.inAppend b).readerActive = s.readerActive := rfl
@[simp] theorem inAppend_winActive (b : Byte) : (s.inAppend b).winActive = s.winActive := rfl
@[simp] theorem inAppend_decOpen (b : Byte) : (s.inAppend b).decOpen = s.decOpen := rfl
@[simp] theorem inAppend_encOpen (b : Byte) : (s.inAppend b).encOpen = s.encOpen := rfl
@[simp] theorem inAppend_extAllowed (b : Byte) : (s.inAppend b).extAllowed = s.extAllowed := rfl
@[simp] theorem inAppend_sessionFailed (b : Byte) : (s.inAppend b).sessionFailed = s.sessionFailed := rfl
@[simp] theorem inAppend_ct (b : Byte) : (s.inAppend b).ct = s.ct := rfl
@[simp] theorem inAppend_first (b : Byte) : (s.inAppend b).first = s.first := rfl
@[simp] theorem inAppend_second (b : Byte) : (s.inAppend b).second = s.second := rfl
@[simp] theorem inAppend_rdPos (b : Byte) : (s.inAppend b).rdPos = s.rdPos := rfl
@[simp] theorem inAppend_rdEnd (b : Byte) : (s.inAppend b).rdEnd = s.rdEnd := rfl
@[simp] theorem inAppend_pendingOp (b : Byte) : (s.inAppend b).pendingOp = s.pendingOp := rfl
@[simp] theorem inAppend_pushbackInst (b : Byte) : (s.inAppend b).pushbackInst = s.pushbackInst := rfl
@[simp] theorem inAppend_lastInst (b : Byte) : (s.inAppend b).lastInst = s.lastInst := rfl
@[simp] theorem inAppend_data (b : Byte) : (s.inAppend b).data = s.data := rfl
@[simp] theorem inAppend_insts (b : Byte) : (s.inAppend b).insts = s.insts := rfl
@[simp] theorem inAppend_addrs (b : Byte) : (s.inAppend b).addrs = s.addrs := rfl
@[simp] theorem inAppend_wrLast (b : Byte) : (s.inAppend b).wrLast = s.wrLast := rfl
@[simp] theorem inAppend_wrInstCount (b : Byte) : (s.inAppend b).wrInstCount = s.wrInstCount := rfl
@[simp] theorem inAppend_wrTargetLen (b : Byte) : (s.inAppend b).wrTargetLen = s.wrTargetLen := rfl
@[simp] theorem inAppend_w (b : Byte) : (s.inAppend b).w = s.w := rfl
@[simp] theorem inAppend_inp (b : Byte) : (s.inAppend b).inp = s.inp ++ [b] := rfl
@[simp] theorem inAppend_out (b : Byte) : (s.inAppend b).out = s.out := rfl
@[simp] theorem inAppend_cfg (b : Byte) : (s.inAppend b).cfg = s.cfg := rfl
@[simp] theorem inAppend_host (b : Byte) : (s.inAppend b).host = s.host := rfl
@[simp] theorem inAppend_hostData (b : Byte) : (s.inAppend b).hostData = s.hostData := rfl
@[simp] theorem inAppend_freeReads (b : Byte) : (s.inAppend b).freeReads = s.freeReads := rfl

@[simp] theorem setRes0_arg (v : Nat) : (s.setRes0 v).arg = s.arg := rfl
@[simp] theorem setRes0_res (v : Nat) : (s.setRes0 v).res = { s.res with r0 := w64 v } := rfl
@[simp] theorem setRes0_cmd (v : Nat) : (s.setRes0 v).cmd = s.cmd := rfl
@[simp] theorem setRes0_status (v : Nat) : (s.setRes0 v).status = s.status := rfl
@[simp] theorem setRes0_ctrl (v : Nat) : (s.setRes0 v).ctrl = s.ctrl := rfl
@[simp] theorem setRes0_dictSize (v : Nat) : (s.setRes0 v).dictSize = s.dictSize := rfl
@[simp] theorem setRes0_maxWindowSize (v : Nat) : (s.setRes0 v).maxWindowSize = s.maxWindowSize := rfl
@[simp] theorem setRes0_maxFileSize (v : Nat) : (s.setRes0 v).maxFileSize = s.maxFileSize := rfl
@[simp] theorem setRes0_nearSize (v : Nat) : (s.setRes0 v).nearSize = s.nearSize := rfl
@[simp] theorem setRes0_sameSize (v : Nat) : (s.setRes0 v).sameSize = s.sameSize := rfl
@[simp] theorem setRes0_decTargetTotal (v : Nat) : (s.setRes0 v).decTargetTotal = s.decTargetTotal := rfl
@[simp] theorem setRes0_tableValid (v : Nat) : (s.setRes0 v).tableValid = s.tableValid := rfl
@[simp] theorem setRes0_readerActive (v : Nat) : (s.setRes0 v).readerActive = s.readerActive := rfl
@[simp] theorem setRes0_winActive (v : Nat) : (s.setRes0 v).winActive = s.winActive := rfl
@[simp] theorem setRes0_decOpen (v : Nat) : (s.setRes0 v).decOpen = s.decOpen := rfl
@[simp] theorem setRes0_encOpen (v : Nat) : (s.setRes0 v).encOpen = s.encOpen := rfl
@[simp] theorem setRes0_extAllowed (v : Nat) : (s.setRes0 v).extAllowed = s.extAllowed := rfl
@[simp] theorem setRes0_sessionFailed (v : Nat) : (s.setRes0 v).sessionFailed = s.sessionFailed := rfl
@[simp] theorem setRes0_ct (v : Nat) : (s.setRes0 v).ct = s.ct := rfl
@[simp] theorem setRes0_first (v : Nat) : (s.setRes0 v).first = s.first := rfl
@[simp] theorem setRes0_second (v : Nat) : (s.setRes0 v).second = s.second := rfl
@[simp] theorem setRes0_rdPos (v : Nat) : (s.setRes0 v).rdPos = s.rdPos := rfl
@[simp] theorem setRes0_rdEnd (v : Nat) : (s.setRes0 v).rdEnd = s.rdEnd := rfl
@[simp] theorem setRes0_pendingOp (v : Nat) : (s.setRes0 v).pendingOp = s.pendingOp := rfl
@[simp] theorem setRes0_pushbackInst (v : Nat) : (s.setRes0 v).pushbackInst = s.pushbackInst := rfl
@[simp] theorem setRes0_lastInst (v : Nat) : (s.setRes0 v).lastInst = s.lastInst := rfl
@[simp] theorem setRes0_data (v : Nat) : (s.setRes0 v).data = s.data := rfl
@[simp] theorem setRes0_insts (v : Nat) : (s.setRes0 v).insts = s.insts := rfl
@[simp] theorem setRes0_addrs (v : Nat) : (s.setRes0 v).addrs = s.addrs := rfl
@[simp] theorem setRes0_wrLast (v : Nat) : (s.setRes0 v).wrLast = s.wrLast := rfl
@[simp] theorem setRes0_wrInstCount (v : Nat) : (s.setRes0 v).wrInstCount = s.wrInstCount := rfl
@[simp] theorem setRes0_wrTargetLen (v : Nat) : (s.setRes0 v).wrTargetLen = s.wrTargetLen := rfl
@[simp] theorem setRes0_w (v : Nat) : (s.setRes0 v).w = s.w := rfl
@[simp] theorem setRes0_inp (v : Nat) : (s.setRes0 v).inp = s.inp := rfl
@[simp] theorem setRes0_out (v : Nat) : (s.setRes0 v).out = s.out := rfl
@[simp] theorem setRes0_cfg (v : Nat) : (s.setRes0 v).cfg = s.cfg := rfl
@[simp] theorem setRes0_host (v : Nat) : (s.setRes0 v).host = s.host := rfl
@[simp] theorem setRes0_hostData (v : Nat) : (s.setRes0 v).hostData = s.hostData := rfl
@[simp] theorem setRes0_freeReads (v : Nat) : (s.setRes0 v).freeReads = s.freeReads := rfl

@[simp] theorem setRes01_arg (v0 v1 : Nat) : (s.setRes01 v0 v1).arg = s.arg := rfl
@[simp] theorem setRes01_res (v0 v1 : Nat) : (s.setRes01 v0 v1).res = { s.res with r0 := w64 v0, r1 := w64 v1 } := rfl
@[simp] theorem setRes01_cmd (v0 v1 : Nat) : (s.setRes01 v0 v1).cmd = s.cmd := rfl
@[simp] theorem setRes01_status (v0 v1 : Nat) : (s.setRes01 v0 v1).status = s.status := rfl
@[simp] theorem setRes01_ctrl (v0 v1 : Nat) : (s.setRes01 v0 v1).ctrl = s.ctrl := rfl
@[simp] theorem setRes01_dictSize (v0 v1 : Nat) : (s.setRes01 v0 v1).dictSize = s.dictSize := rfl
@[simp] theorem setRes01_maxWindowSize (v0 v1 : Nat) : (s.setRes01 v0 v1).maxWindowSize = s.maxWindowSize := rfl
@[simp] theorem setRes01_maxFileSize (v0 v1 : Nat) : (s.setRes01 v0 v1).maxFileSize = s.maxFileSize := rfl
@[simp] theorem setRes01_nearSize (v0 v1 : Nat) : (s.setRes01 v0 v1).nearSize = s.nearSize := rfl
@[simp] theorem setRes01_sameSize (v0 v1 : Nat) : (s.setRes01 v0 v1).sameSize = s.sameSize := rfl
@[simp] theorem setRes01_decTargetTotal (v0 v1 : Nat) : (s.setRes01 v0 v1).decTargetTotal = s.decTargetTotal := rfl
@[simp] theorem setRes01_tableValid (v0 v1 : Nat) : (s.setRes01 v0 v1).tableValid = s.tableValid := rfl
@[simp] theorem setRes01_readerActive (v0 v1 : Nat) : (s.setRes01 v0 v1).readerActive = s.readerActive := rfl
@[simp] theorem setRes01_winActive (v0 v1 : Nat) : (s.setRes01 v0 v1).winActive = s.winActive := rfl
@[simp] theorem setRes01_decOpen (v0 v1 : Nat) : (s.setRes01 v0 v1).decOpen = s.decOpen := rfl
@[simp] theorem setRes01_encOpen (v0 v1 : Nat) : (s.setRes01 v0 v1).encOpen = s.encOpen := rfl
@[simp] theorem setRes01_extAllowed (v0 v1 : Nat) : (s.setRes01 v0 v1).extAllowed = s.extAllowed := rfl
@[simp] theorem setRes01_sessionFailed (v0 v1 : Nat) : (s.setRes01 v0 v1).sessionFailed = s.sessionFailed := rfl
@[simp] theorem setRes01_ct (v0 v1 : Nat) : (s.setRes01 v0 v1).ct = s.ct := rfl
@[simp] theorem setRes01_first (v0 v1 : Nat) : (s.setRes01 v0 v1).first = s.first := rfl
@[simp] theorem setRes01_second (v0 v1 : Nat) : (s.setRes01 v0 v1).second = s.second := rfl
@[simp] theorem setRes01_rdPos (v0 v1 : Nat) : (s.setRes01 v0 v1).rdPos = s.rdPos := rfl
@[simp] theorem setRes01_rdEnd (v0 v1 : Nat) : (s.setRes01 v0 v1).rdEnd = s.rdEnd := rfl
@[simp] theorem setRes01_pendingOp (v0 v1 : Nat) : (s.setRes01 v0 v1).pendingOp = s.pendingOp := rfl
@[simp] theorem setRes01_pushbackInst (v0 v1 : Nat) : (s.setRes01 v0 v1).pushbackInst = s.pushbackInst := rfl
@[simp] theorem setRes01_lastInst (v0 v1 : Nat) : (s.setRes01 v0 v1).lastInst = s.lastInst := rfl
@[simp] theorem setRes01_data (v0 v1 : Nat) : (s.setRes01 v0 v1).data = s.data := rfl
@[simp] theorem setRes01_insts (v0 v1 : Nat) : (s.setRes01 v0 v1).insts = s.insts := rfl
@[simp] theorem setRes01_addrs (v0 v1 : Nat) : (s.setRes01 v0 v1).addrs = s.addrs := rfl
@[simp] theorem setRes01_wrLast (v0 v1 : Nat) : (s.setRes01 v0 v1).wrLast = s.wrLast := rfl
@[simp] theorem setRes01_wrInstCount (v0 v1 : Nat) : (s.setRes01 v0 v1).wrInstCount = s.wrInstCount := rfl
@[simp] theorem setRes01_wrTargetLen (v0 v1 : Nat) : (s.setRes01 v0 v1).wrTargetLen = s.wrTargetLen := rfl
@[simp] theorem setRes01_w (v0 v1 : Nat) : (s.setRes01 v0 v1).w = s.w := rfl
@[simp] theorem setRes01_inp (v0 v1 : Nat) : (s.setRes01 v0 v1).inp = s.inp := rfl
@[simp] theorem setRes01_out (v0 v1 : Nat) : (s.setRes01 v0 v1).out = s.out := rfl
@[simp] theorem setRes01_cfg (v0 v1 : Nat) : (s.setRes01 v0 v1).cfg = s.cfg := rfl
@[simp] theorem setRes01_host (v0 v1 : Nat) : (s.setRes01 v0 v1).host = s.host := rfl
@[simp] theorem setRes01_hostData (v0 v1 : Nat) : (s.setRes01 v0 v1).hostData = s.hostData := rfl
@[simp] theorem setRes01_freeReads (v0 v1 : Nat) : (s.setRes01 v0 v1).freeReads = s.freeReads := rfl

@[simp] theorem setRes012_arg (v0 v1 v2 : Nat) : (s.setRes012 v0 v1 v2).arg = s.arg := rfl
@[simp] theorem setRes012_res (v0 v1 v2 : Nat) : (s.setRes012 v0 v1 v2).res = { s.res with r0 := w64 v0, r1 := w64 v1, r2 := w64 v2 } := rfl
@[simp] theorem setRes012_cmd (v0 v1 v2 : Nat) : (s.setRes012 v0 v1 v2).cmd = s.cmd := rfl
@[simp] theorem setRes012_status (v0 v1 v2 : Nat) : (s.setRes012 v0 v1 v2).status = s.status := rfl
@[simp] theorem setRes012_ctrl (v0 v1 v2 : Nat) : (s.setRes012 v0 v1 v2).ctrl = s.ctrl := rfl
@[simp] theorem setRes012_dictSize (v0 v1 v2 : Nat) : (s.setRes012 v0 v1 v2).dictSize = s.dictSize := rfl
@[simp] theorem setRes012_maxWindowSize (v0 v1 v2 : Nat) : (s.setRes012 v0 v1 v2).maxWindowSize = s.maxWindowSize := rfl
@[simp] theorem setRes012_maxFileSize (v0 v1 v2 : Nat) : (s.setRes012 v0 v1 v2).maxFileSize = s.maxFileSize := rfl
@[simp] theorem setRes012_nearSize (v0 v1 v2 : Nat) : (s.setRes012 v0 v1 v2).nearSize = s.nearSize := rfl
@[simp] theorem setRes012_sameSize (v0 v1 v2 : Nat) : (s.setRes012 v0 v1 v2).sameSize = s.sameSize := rfl
@[simp] theorem setRes012_decTargetTotal (v0 v1 v2 : Nat) : (s.setRes012 v0 v1 v2).decTargetTotal = s.decTargetTotal := rfl
@[simp] theorem setRes012_tableValid (v0 v1 v2 : Nat) : (s.setRes012 v0 v1 v2).tableValid = s.tableValid := rfl
@[simp] theorem setRes012_readerActive (v0 v1 v2 : Nat) : (s.setRes012 v0 v1 v2).readerActive = s.readerActive := rfl
@[simp] theorem setRes012_winActive (v0 v1 v2 : Nat) : (s.setRes012 v0 v1 v2).winActive = s.winActive := rfl
@[simp] theorem setRes012_decOpen (v0 v1 v2 : Nat) : (s.setRes012 v0 v1 v2).decOpen = s.decOpen := rfl
@[simp] theorem setRes012_encOpen (v0 v1 v2 : Nat) : (s.setRes012 v0 v1 v2).encOpen = s.encOpen := rfl
@[simp] theorem setRes012_extAllowed (v0 v1 v2 : Nat) : (s.setRes012 v0 v1 v2).extAllowed = s.extAllowed := rfl
@[simp] theorem setRes012_sessionFailed (v0 v1 v2 : Nat) : (s.setRes012 v0 v1 v2).sessionFailed = s.sessionFailed := rfl
@[simp] theorem setRes012_ct (v0 v1 v2 : Nat) : (s.setRes012 v0 v1 v2).ct = s.ct := rfl
@[simp] theorem setRes012_first (v0 v1 v2 : Nat) : (s.setRes012 v0 v1 v2).first = s.first := rfl
@[simp] theorem setRes012_second (v0 v1 v2 : Nat) : (s.setRes012 v0 v1 v2).second = s.second := rfl
@[simp] theorem setRes012_rdPos (v0 v1 v2 : Nat) : (s.setRes012 v0 v1 v2).rdPos = s.rdPos := rfl
@[simp] theorem setRes012_rdEnd (v0 v1 v2 : Nat) : (s.setRes012 v0 v1 v2).rdEnd = s.rdEnd := rfl
@[simp] theorem setRes012_pendingOp (v0 v1 v2 : Nat) : (s.setRes012 v0 v1 v2).pendingOp = s.pendingOp := rfl
@[simp] theorem setRes012_pushbackInst (v0 v1 v2 : Nat) : (s.setRes012 v0 v1 v2).pushbackInst = s.pushbackInst := rfl
@[simp] theorem setRes012_lastInst (v0 v1 v2 : Nat) : (s.setRes012 v0 v1 v2).lastInst = s.lastInst := rfl
@[simp] theorem setRes012_data (v0 v1 v2 : Nat) : (s.setRes012 v0 v1 v2).data = s.data := rfl
@[simp] theorem setRes012_insts (v0 v1 v2 : Nat) : (s.setRes012 v0 v1 v2).insts = s.insts := rfl
@[simp] theorem setRes012_addrs (v0 v1 v2 : Nat) : (s.setRes012 v0 v1 v2).addrs = s.addrs := rfl
@[simp] theorem setRes012_wrLast (v0 v1 v2 : Nat) : (s.setRes012 v0 v1 v2).wrLast = s.wrLast := rfl
@[simp] theorem setRes012_wrInstCount (v0 v1 v2 : Nat) : (s.setRes012 v0 v1 v2).wrInstCount = s.wrInstCount := rfl
@[simp] theorem setRes012_wrTargetLen (v0 v1 v2 : Nat) : (s.setRes012 v0 v1 v2).wrTargetLen = s.wrTargetLen := rfl
@[simp] theorem setRes012_w (v0 v1 v2 : Nat) : (s.setRes012 v0 v1 v2).w = s.w := rfl
@[simp] theorem setRes012_inp (v0 v1 v2 : Nat) : (s.setRes012 v0 v1 v2).inp = s.inp := rfl
@[simp] theorem setRes012_out (v0 v1 v2 : Nat) : (s.setRes012 v0 v1 v2).out = s.out := rfl
@[simp] theorem setRes012_cfg (v0 v1 v2 : Nat) : (s.setRes012 v0 v1 v2).cfg = s.cfg := rfl
@[simp] theorem setRes012_host (v0 v1 v2 : Nat) : (s.setRes012 v0 v1 v2).host = s.host := rfl
@[simp] theorem setRes012_hostData (v0 v1 v2 : Nat) : (s.setRes012 v0 v1 v2).hostData = s.hostData := rfl
@[simp] theorem setRes012_freeReads (v0 v1 v2 : Nat) : (s.setRes012 v0 v1 v2).freeReads = s.freeReads := rfl

@[simp] theorem setRes_arg (v0 v1 v2 v3 : Nat) : (s.setRes v0 v1 v2 v3).arg = s.arg := rfl
@[simp] theorem setRes_res (v0 v1 v2 v3 : Nat) : (s.setRes v0 v1 v2 v3).res = { r0 := w64 v0, r1 := w64 v1, r2 := w64 v2, r3 := w64 v3 } := rfl
@[simp] theorem setRes_cmd (v0 v1 v2 v3 : Nat) : (s.setRes v0 v1 v2 v3).cmd = s.cmd := rfl
@[simp] theorem setRes_status (v0 v1 v2 v3 : Nat) : (s.setRes v0 v1 v2 v3).status = s.status := rfl
@[simp] theorem setRes_ctrl (v0 v1 v2 v3 : Nat) : (s.setRes v0 v1 v2 v3).ctrl = s.ctrl := rfl
@[simp] theorem setRes_dictSize (v0 v1 v2 v3 : Nat) : (s.setRes v0 v1 v2 v3).dictSize = s.dictSize := rfl
@[simp] theorem setRes_maxWindowSize (v0 v1 v2 v3 : Nat) : (s.setRes v0 v1 v2 v3).maxWindowSize = s.maxWindowSize := rfl
@[simp] theorem setRes_maxFileSize (v0 v1 v2 v3 : Nat) : (s.setRes v0 v1 v2 v3).maxFileSize = s.maxFileSize := rfl
@[simp] theorem setRes_nearSize (v0 v1 v2 v3 : Nat) : (s.setRes v0 v1 v2 v3).nearSize = s.nearSize := rfl
@[simp] theorem setRes_sameSize (v0 v1 v2 v3 : Nat) : (s.setRes v0 v1 v2 v3).sameSize = s.sameSize := rfl
@[simp] theorem setRes_decTargetTotal (v0 v1 v2 v3 : Nat) : (s.setRes v0 v1 v2 v3).decTargetTotal = s.decTargetTotal := rfl
@[simp] theorem setRes_tableValid (v0 v1 v2 v3 : Nat) : (s.setRes v0 v1 v2 v3).tableValid = s.tableValid := rfl
@[simp] theorem setRes_readerActive (v0 v1 v2 v3 : Nat) : (s.setRes v0 v1 v2 v3).readerActive = s.readerActive := rfl
@[simp] theorem setRes_winActive (v0 v1 v2 v3 : Nat) : (s.setRes v0 v1 v2 v3).winActive = s.winActive := rfl
@[simp] theorem setRes_decOpen (v0 v1 v2 v3 : Nat) : (s.setRes v0 v1 v2 v3).decOpen = s.decOpen := rfl
@[simp] theorem setRes_encOpen (v0 v1 v2 v3 : Nat) : (s.setRes v0 v1 v2 v3).encOpen = s.encOpen := rfl
@[simp] theorem setRes_extAllowed (v0 v1 v2 v3 : Nat) : (s.setRes v0 v1 v2 v3).extAllowed = s.extAllowed := rfl
@[simp] theorem setRes_sessionFailed (v0 v1 v2 v3 : Nat) : (s.setRes v0 v1 v2 v3).sessionFailed = s.sessionFailed := rfl
@[simp] theorem setRes_ct (v0 v1 v2 v3 : Nat) : (s.setRes v0 v1 v2 v3).ct = s.ct := rfl
@[simp] theorem setRes_first (v0 v1 v2 v3 : Nat) : (s.setRes v0 v1 v2 v3).first = s.first := rfl
@[simp] theorem setRes_second (v0 v1 v2 v3 : Nat) : (s.setRes v0 v1 v2 v3).second = s.second := rfl
@[simp] theorem setRes_rdPos (v0 v1 v2 v3 : Nat) : (s.setRes v0 v1 v2 v3).rdPos = s.rdPos := rfl
@[simp] theorem setRes_rdEnd (v0 v1 v2 v3 : Nat) : (s.setRes v0 v1 v2 v3).rdEnd = s.rdEnd := rfl
@[simp] theorem setRes_pendingOp (v0 v1 v2 v3 : Nat) : (s.setRes v0 v1 v2 v3).pendingOp = s.pendingOp := rfl
@[simp] theorem setRes_pushbackInst (v0 v1 v2 v3 : Nat) : (s.setRes v0 v1 v2 v3).pushbackInst = s.pushbackInst := rfl
@[simp] theorem setRes_lastInst (v0 v1 v2 v3 : Nat) : (s.setRes v0 v1 v2 v3).lastInst = s.lastInst := rfl
@[simp] theorem setRes_data (v0 v1 v2 v3 : Nat) : (s.setRes v0 v1 v2 v3).data = s.data := rfl
@[simp] theorem setRes_insts (v0 v1 v2 v3 : Nat) : (s.setRes v0 v1 v2 v3).insts = s.insts := rfl
@[simp] theorem setRes_addrs (v0 v1 v2 v3 : Nat) : (s.setRes v0 v1 v2 v3).addrs = s.addrs := rfl
@[simp] theorem setRes_wrLast (v0 v1 v2 v3 : Nat) : (s.setRes v0 v1 v2 v3).wrLast = s.wrLast := rfl
@[simp] theorem setRes_wrInstCount (v0 v1 v2 v3 : Nat) : (s.setRes v0 v1 v2 v3).wrInstCount = s.wrInstCount := rfl
@[simp] theorem setRes_wrTargetLen (v0 v1 v2 v3 : Nat) : (s.setRes v0 v1 v2 v3).wrTargetLen = s.wrTargetLen := rfl
@[simp] theorem setRes_w (v0 v1 v2 v3 : Nat) : (s.setRes v0 v1 v2 v3).w = s.w := rfl
@[simp] theorem setRes_inp (v0 v1 v2 v3 : Nat) : (s.setRes v0 v1 v2 v3).inp = s.inp := rfl
@[simp] theorem setRes_out (v0 v1 v2 v3 : Nat) : (s.setRes v0 v1 v2 v3).out = s.out := rfl
@[simp] theorem setRes_cfg (v0 v1 v2 v3 : Nat) : (s.setRes v0 v1 v2 v3).cfg = s.cfg := rfl
@[simp] theorem setRes_host (v0 v1 v2 v3 : Nat) : (s.setRes v0 v1 v2 v3).host = s.host := rfl
@[simp] theorem setRes_hostData (v0 v1 v2 v3 : Nat) : (s.setRes v0 v1 v2 v3).hostData = s.hostData := rfl
@[simp] theorem setRes_freeReads (v0 v1 v2 v3 : Nat) : (s.setRes v0 v1 v2 v3).freeReads = s.freeReads := rfl

@[simp] theorem closeReader_arg : (s.closeReader).arg = s.arg := rfl
@[simp] theorem closeReader_res : (s.closeReader).res = s.res := rfl
@[simp] theorem closeReader_cmd : (s.closeReader).cmd = s.cmd := rfl
@[simp] theorem closeReader_status : (s.closeReader).status = s.status := rfl
@[simp] theorem closeReader_ctrl : (s.closeReader).ctrl = s.ctrl := rfl
@[simp] theorem closeReader_dictSize : (s.closeReader).dictSize = s.dictSize := rfl
@[simp] theorem closeReader_maxWindowSize : (s.closeReader).maxWindowSize = s.maxWindowSize := rfl
@[simp] theorem closeReader_maxFileSize : (s.closeReader).maxFileSize = s.maxFileSize := rfl
@[simp] theorem closeReader_nearSize : (s.closeReader).nearSize = s.nearSize := rfl
@[simp] theorem closeReader_sameSize : (s.closeReader).sameSize = s.sameSize := rfl
@[simp] theorem closeReader_decTargetTotal : (s.closeReader).decTargetTotal = s.decTargetTotal := rfl
@[simp] theorem closeReader_tableValid : (s.closeReader).tableValid = s.tableValid := rfl
@[simp] theorem closeReader_readerActive : (s.closeReader).readerActive = false := rfl
@[simp] theorem closeReader_winActive : (s.closeReader).winActive = s.winActive := rfl
@[simp] theorem closeReader_decOpen : (s.closeReader).decOpen = s.decOpen := rfl
@[simp] theorem closeReader_encOpen : (s.closeReader).encOpen = s.encOpen := rfl
@[simp] theorem closeReader_extAllowed : (s.closeReader).extAllowed = s.extAllowed := rfl
@[simp] theorem closeReader_sessionFailed : (s.closeReader).sessionFailed = s.sessionFailed := rfl
@[simp] theorem closeReader_ct : (s.closeReader).ct = s.ct := rfl
@[simp] theorem closeReader_first : (s.closeReader).first = s.first := rfl
@[simp] theorem closeReader_second : (s.closeReader).second = s.second := rfl
@[simp] theorem closeReader_rdPos : (s.closeReader).rdPos = s.rdPos := rfl
@[simp] theorem closeReader_rdEnd : (s.closeReader).rdEnd = s.rdEnd := rfl
@[simp] theorem closeReader_pendingOp : (s.closeReader).pendingOp = none := rfl
@[simp] theorem closeReader_pushbackInst : (s.closeReader).pushbackInst = none := rfl
@[simp] theorem closeReader_lastInst : (s.closeReader).lastInst = none := rfl
@[simp] theorem closeReader_data : (s.closeReader).data = s.data := rfl
@[simp] theorem closeReader_insts : (s.closeReader).insts = s.insts := rfl
@[simp] theorem closeReader_addrs : (s.closeReader).addrs = s.addrs := rfl
@[simp] theorem closeReader_wrLast : (s.closeReader).wrLast = s.wrLast := rfl
@[simp] theorem closeReader_wrInstCount : (s.closeReader).wrInstCount = s.wrInstCount := rfl
@[simp] theorem closeReader_wrTargetLen : (s.closeReader).wrTargetLen = s.wrTargetLen := rfl
@[simp] theorem closeReader_w : (s.closeReader).w = s.w := rfl
@[simp] theorem closeReader_inp : (s.closeReader).inp = s.inp := rfl
@[simp] theorem closeReader_out : (s.closeReader).out = s.out := rfl
@[simp] theorem closeReader_cfg : (s.closeReader).cfg = s.cfg := rfl
@[simp] theorem closeReader_host : (s.closeReader).host = s.host := rfl
@[simp] theorem closeReader_hostData : (s.closeReader).hostData = s.hostData := rfl
@[simp] theorem closeReader_freeReads : (s.closeReader).freeReads = s.freeReads := rfl

@[simp] theorem clearWindow_arg : (s.clearWindow).arg = s.arg := rfl
@[simp] theorem clearWindow_res : (s.clearWindow).res = s.res := rfl
@[simp] theorem clearWindow_cmd : (s.clearWindow).cmd = s.cmd := rfl
@[simp] theorem clearWindow_status : (s.clearWindow).status = s.status := rfl
@[simp] theorem clearWindow_ctrl : (s.clearWindow).ctrl = s.ctrl := rfl
@[simp] theorem clearWindow_dictSize : (s.clearWindow).dictSize = s.dictSize := rfl
@[simp] theorem clearWindow_maxWindowSize : (s.clearWindow).maxWindowSize = s.maxWindowSize := rfl
@[simp] theorem clearWindow_maxFileSize : (s.clearWindow).maxFileSize = s.maxFileSize := rfl
@[simp] theorem clearWindow_nearSize : (s.clearWindow).nearSize = s.nearSize := rfl
@[simp] theorem clearWindow_sameSize : (s.clearWindow).sameSize = s.sameSize := rfl
@[simp] theorem clearWindow_decTargetTotal : (s.clearWindow).decTargetTotal = s.decTargetTotal := rfl
@[simp] theorem clearWindow_tableValid : (s.clearWindow).tableValid = s.tableValid := rfl
@[simp] theorem clearWindow_readerActive : (s.clearWindow).readerActive = s.readerActive := rfl
@[simp] theorem clearWindow_winActive : (s.clearWindow).winActive = s.winActive := rfl
@[simp] theorem clearWindow_decOpen : (s.clearWindow).decOpen = s.decOpen := rfl
@[simp] theorem clearWindow_encOpen : (s.clearWindow).encOpen = s.encOpen := rfl
@[simp] theorem clearWindow_extAllowed : (s.clearWindow).extAllowed = s.extAllowed := rfl
@[simp] theorem clearWindow_sessionFailed : (s.clearWindow).sessionFailed = s.sessionFailed := rfl
@[simp] theorem clearWindow_ct : (s.clearWindow).ct = s.ct := rfl
@[simp] theorem clearWindow_first : (s.clearWindow).first = s.first := rfl
@[simp] theorem clearWindow_second : (s.clearWindow).second = s.second := rfl
@[simp] theorem clearWindow_rdPos : (s.clearWindow).rdPos = s.rdPos := rfl
@[simp] theorem clearWindow_rdEnd : (s.clearWindow).rdEnd = s.rdEnd := rfl
@[simp] theorem clearWindow_pendingOp : (s.clearWindow).pendingOp = s.pendingOp := rfl
@[simp] theorem clearWindow_pushbackInst : (s.clearWindow).pushbackInst = s.pushbackInst := rfl
@[simp] theorem clearWindow_lastInst : (s.clearWindow).lastInst = s.lastInst := rfl
@[simp] theorem clearWindow_data : (s.clearWindow).data = [] := rfl
@[simp] theorem clearWindow_insts : (s.clearWindow).insts = [] := rfl
@[simp] theorem clearWindow_addrs : (s.clearWindow).addrs = [] := rfl
@[simp] theorem clearWindow_wrLast : (s.clearWindow).wrLast = none := rfl
@[simp] theorem clearWindow_wrInstCount : (s.clearWindow).wrInstCount = 0 := rfl
@[simp] theorem clearWindow_wrTargetLen : (s.clearWindow).wrTargetLen = 0 := rfl
@[simp] theorem clearWindow_w : (s.clearWindow).w = s.w := rfl
@[simp] theorem clearWindow_inp : (s.clearWindow).inp = s.inp := rfl
@[simp] theorem clearWindow_out : (s.clearWindow).out = s.out := rfl
@[simp] theorem clearWindow_cfg : (s.clearWindow).cfg = s.cfg := rfl
@[simp] theorem clearWindow_host : (s.clearWindow).host = s.host := rfl
@[simp] theorem clearWindow_hostData : (s.clearWindow).hostData = s.hostData := rfl
@[simp] theorem clearWindow_freeReads : (s.clearWindow).freeReads = s.freeReads := rfl

@[simp] theorem returnRecord_arg (r : InstRecord) (p : Nat) : (s.returnRecord r p).arg = s.arg := rfl
@[simp] theorem returnRecord_res (r : InstRecord) (p : Nat) : (s.returnRecord r p).res = { r0 := w64 r.typ.toNat, r1 := w64 r.size.toNat, r2 := w64 r.mode.toNat, r3 := w64 p } := rfl
@[simp] theorem returnRecord_cmd (r : InstRecord) (p : Nat) : (s.returnRecord r p).cmd = s.cmd := rfl
@[simp] theorem returnRecord_status (r : InstRecord) (p : Nat) : (s.returnRecord r p).status = s.status := rfl
@[simp] theorem returnRecord_ctrl (r : InstRecord) (p : Nat) : (s.returnRecord r p).ctrl = s.ctrl := rfl
@[simp] theorem returnRecord_dictSize (r : InstRecord) (p : Nat) : (s.returnRecord r p).dictSize = s.dictSize := rfl
@[simp] theorem returnRecord_maxWindowSize (r : InstRecord) (p : Nat) : (s.returnRecord r p).maxWindowSize = s.maxWindowSize := rfl
@[simp] theorem returnRecord_maxFileSize (r : InstRecord) (p : Nat) : (s.returnRecord r p).maxFileSize = s.maxFileSize := rfl
@[simp] theorem returnRecord_nearSize (r : InstRecord) (p : Nat) : (s.returnRecord r p).nearSize = s.nearSize := rfl
@[simp] theorem returnRecord_sameSize (r : InstRecord) (p : Nat) : (s.returnRecord r p).sameSize = s.sameSize := rfl
@[simp] theorem returnRecord_decTargetTotal (r : InstRecord) (p : Nat) : (s.returnRecord r p).decTargetTotal = s.decTargetTotal := rfl
@[simp] theorem returnRecord_tableValid (r : InstRecord) (p : Nat) : (s.returnRecord r p).tableValid = s.tableValid := rfl
@[simp] theorem returnRecord_readerActive (r : InstRecord) (p : Nat) : (s.returnRecord r p).readerActive = s.readerActive := rfl
@[simp] theorem returnRecord_winActive (r : InstRecord) (p : Nat) : (s.returnRecord r p).winActive = s.winActive := rfl
@[simp] theorem returnRecord_decOpen (r : InstRecord) (p : Nat) : (s.returnRecord r p).decOpen = s.decOpen := rfl
@[simp] theorem returnRecord_encOpen (r : InstRecord) (p : Nat) : (s.returnRecord r p).encOpen = s.encOpen := rfl
@[simp] theorem returnRecord_extAllowed (r : InstRecord) (p : Nat) : (s.returnRecord r p).extAllowed = s.extAllowed := rfl
@[simp] theorem returnRecord_sessionFailed (r : InstRecord) (p : Nat) : (s.returnRecord r p).sessionFailed = s.sessionFailed := rfl
@[simp] theorem returnRecord_ct (r : InstRecord) (p : Nat) : (s.returnRecord r p).ct = s.ct := rfl
@[simp] theorem returnRecord_first (r : InstRecord) (p : Nat) : (s.returnRecord r p).first = s.first := rfl
@[simp] theorem returnRecord_second (r : InstRecord) (p : Nat) : (s.returnRecord r p).second = s.second := rfl
@[simp] theorem returnRecord_rdPos (r : InstRecord) (p : Nat) : (s.returnRecord r p).rdPos = s.rdPos := rfl
@[simp] theorem returnRecord_rdEnd (r : InstRecord) (p : Nat) : (s.returnRecord r p).rdEnd = s.rdEnd := rfl
@[simp] theorem returnRecord_pendingOp (r : InstRecord) (p : Nat) : (s.returnRecord r p).pendingOp = s.pendingOp := rfl
@[simp] theorem returnRecord_pushbackInst (r : InstRecord) (p : Nat) : (s.returnRecord r p).pushbackInst = s.pushbackInst := rfl
@[simp] theorem returnRecord_lastInst (r : InstRecord) (p : Nat) : (s.returnRecord r p).lastInst = s.lastInst := rfl
@[simp] theorem returnRecord_data (r : InstRecord) (p : Nat) : (s.returnRecord r p).data = s.data := rfl
@[simp] theorem returnRecord_insts (r : InstRecord) (p : Nat) : (s.returnRecord r p).insts = s.insts := rfl
@[simp] theorem returnRecord_addrs (r : InstRecord) (p : Nat) : (s.returnRecord r p).addrs = s.addrs := rfl
@[simp] theorem returnRecord_wrLast (r : InstRecord) (p : Nat) : (s.returnRecord r p).wrLast = s.wrLast := rfl
@[simp] theorem returnRecord_wrInstCount (r : InstRecord) (p : Nat) : (s.returnRecord r p).wrInstCount = s.wrInstCount := rfl
@[simp] theorem returnRecord_wrTargetLen (r : InstRecord) (p : Nat) : (s.returnRecord r p).wrTargetLen = s.wrTargetLen := rfl
@[simp] theorem returnRecord_w (r : InstRecord) (p : Nat) : (s.returnRecord r p).w = s.w := rfl
@[simp] theorem returnRecord_inp (r : InstRecord) (p : Nat) : (s.returnRecord r p).inp = s.inp := rfl
@[simp] theorem returnRecord_out (r : InstRecord) (p : Nat) : (s.returnRecord r p).out = s.out := rfl
@[simp] theorem returnRecord_cfg (r : InstRecord) (p : Nat) : (s.returnRecord r p).cfg = s.cfg := rfl
@[simp] theorem returnRecord_host (r : InstRecord) (p : Nat) : (s.returnRecord r p).host = s.host := rfl
@[simp] theorem returnRecord_hostData (r : InstRecord) (p : Nat) : (s.returnRecord r p).hostData = s.hostData := rfl
@[simp] theorem returnRecord_freeReads (r : InstRecord) (p : Nat) : (s.returnRecord r p).freeReads = s.freeReads := rfl

@[simp] theorem fail_arg (f : Failure) : (fail f s).arg = s.arg := by cases f <;> rfl
@[simp] theorem fail_res (f : Failure) : (fail f s).res = s.res := by cases f <;> rfl
@[simp] theorem fail_cmd (f : Failure) : (fail f s).cmd = s.cmd := by cases f <;> rfl
@[simp] theorem fail_ctrl (f : Failure) : (fail f s).ctrl = s.ctrl := by cases f <;> rfl
@[simp] theorem fail_dictSize (f : Failure) : (fail f s).dictSize = s.dictSize := by cases f <;> rfl
@[simp] theorem fail_maxWindowSize (f : Failure) : (fail f s).maxWindowSize = s.maxWindowSize := by cases f <;> rfl
@[simp] theorem fail_maxFileSize (f : Failure) : (fail f s).maxFileSize = s.maxFileSize := by cases f <;> rfl
@[simp] theorem fail_nearSize (f : Failure) : (fail f s).nearSize = s.nearSize := by cases f <;> rfl
@[simp] theorem fail_sameSize (f : Failure) : (fail f s).sameSize = s.sameSize := by cases f <;> rfl
@[simp] theorem fail_decTargetTotal (f : Failure) : (fail f s).decTargetTotal = s.decTargetTotal := by cases f <;> rfl
@[simp] theorem fail_tableValid (f : Failure) : (fail f s).tableValid = s.tableValid := by cases f <;> rfl
@[simp] theorem fail_readerActive (f : Failure) : (fail f s).readerActive = s.readerActive := by cases f <;> rfl
@[simp] theorem fail_winActive (f : Failure) : (fail f s).winActive = s.winActive := by cases f <;> rfl
@[simp] theorem fail_decOpen (f : Failure) : (fail f s).decOpen = s.decOpen := by cases f <;> rfl
@[simp] theorem fail_encOpen (f : Failure) : (fail f s).encOpen = s.encOpen := by cases f <;> rfl
@[simp] theorem fail_extAllowed (f : Failure) : (fail f s).extAllowed = s.extAllowed := by cases f <;> rfl
@[simp] theorem fail_ct (f : Failure) : (fail f s).ct = s.ct := by cases f <;> rfl
@[simp] theorem fail_first (f : Failure) : (fail f s).first = s.first := by cases f <;> rfl
@[simp] theorem fail_second (f : Failure) : (fail f s).second = s.second := by cases f <;> rfl
@[simp] theorem fail_rdEnd (f : Failure) : (fail f s).rdEnd = s.rdEnd := by cases f <;> rfl
@[simp] theorem fail_pendingOp (f : Failure) : (fail f s).pendingOp = s.pendingOp := by cases f <;> rfl
@[simp] theorem fail_pushbackInst (f : Failure) : (fail f s).pushbackInst = s.pushbackInst := by cases f <;> rfl
@[simp] theorem fail_lastInst (f : Failure) : (fail f s).lastInst = s.lastInst := by cases f <;> rfl
@[simp] theorem fail_data (f : Failure) : (fail f s).data = s.data := by cases f <;> rfl
@[simp] theorem fail_insts (f : Failure) : (fail f s).insts = s.insts := by cases f <;> rfl
@[simp] theorem fail_addrs (f : Failure) : (fail f s).addrs = s.addrs := by cases f <;> rfl
@[simp] theorem fail_wrLast (f : Failure) : (fail f s).wrLast = s.wrLast := by cases f <;> rfl
@[simp] theorem fail_wrInstCount (f : Failure) : (fail f s).wrInstCount = s.wrInstCount := by cases f <;> rfl
@[simp] theorem fail_wrTargetLen (f : Failure) : (fail f s).wrTargetLen = s.wrTargetLen := by cases f <;> rfl
@[simp] theorem fail_w (f : Failure) : (fail f s).w = s.w := by cases f <;> rfl
@[simp] theorem fail_inp (f : Failure) : (fail f s).inp = s.inp := by cases f <;> rfl
@[simp] theorem fail_out (f : Failure) : (fail f s).out = s.out := by cases f <;> rfl
@[simp] theorem fail_cfg (f : Failure) : (fail f s).cfg = s.cfg := by cases f <;> rfl
@[simp] theorem fail_host (f : Failure) : (fail f s).host = s.host := by cases f <;> rfl
@[simp] theorem fail_hostData (f : Failure) : (fail f s).hostData = s.hostData := by cases f <;> rfl
@[simp] theorem fail_freeReads (f : Failure) : (fail f s).freeReads = s.freeReads := by cases f <;> rfl

end Sys2Proof.Machine
end

