-- ==== Sys2Proof/Laws/Ops.lean ====
section
/-! SUPPORT. What each shared operation can do, said once: the end of a command, the checks, the field readers. -/

namespace Sys2Proof.Machine

theorem maxField_eq : maxField = 2147483647 := rfl

theorem varint32Max_eq : varint32Max = 4294967295 := rfl

theorem varint64Max_eq : varint64Max = 9223372036854775807 := rfl

theorem cacheLimit_eq : cacheLimit = 254 := rfl

/-- A command always answers a next state, and which one (R1007). -/
@[simp] theorem command_next (body : State → Except Failure State) (s t : State) :
    command body s = .next t ↔ finish s (body s) = t := by
  simp [command]

@[simp] theorem finish_ok (s t : State) : finish s (.ok t) = { t with status := .ok } := rfl

@[simp] theorem finish_error (s : State) (f : Failure) : finish s (.error f) = fail f s := rfl

/-- A command ends OK with its body's writes, or fails with none of them (R207). -/
theorem finish_cases (s : State) (r : Except Failure State) :
    (∃ t, r = .ok t ∧ finish s r = { t with status := .ok }) ∨ (∃ f, r = .error f ∧ finish s r = fail f s) := by
  cases r with
  | ok t => exact .inl ⟨t, rfl, rfl⟩
  | error f => exact .inr ⟨f, rfl, rfl⟩

section bind

variable {α β : Type}

@[simp] theorem ok_bind (a : α) (g : α → Except Failure β) : (Except.ok a >>= g) = g a := rfl

@[simp] theorem error_bind (f : Failure) (g : α → Except Failure β) : (Except.error f >>= g) = .error f := rfl

@[simp] theorem pure_eq_ok (a : α) : (pure a : Except Failure α) = .ok a := rfl

/-- A sequence ends OK exactly when both parts do. -/
theorem bind_eq_ok (x : Except Failure α) (g : α → Except Failure β) (b : β) :
    (x >>= g) = .ok b ↔ ∃ a, x = .ok a ∧ g a = .ok b := by
  cases x <;> simp

/-- A sequence fails in its first part or, that being OK, in its second. -/
theorem bind_eq_error (x : Except Failure α) (g : α → Except Failure β) (f : Failure) :
    (x >>= g) = .error f ↔ x = .error f ∨ ∃ a, x = .ok a ∧ g a = .error f := by
  cases x <;> simp

end bind

theorem check_of {p : Prop} [Decidable p] (h : p) (f : Failure) : check p f = .ok () := by simp [check, h]

theorem check_of_not {p : Prop} [Decidable p] (h : ¬p) (f : Failure) : check p f = .error f := by simp [check, h]

@[simp] theorem check_eq_ok {p : Prop} [Decidable p] (f : Failure) (u : Unit) : check p f = .ok u ↔ p := by
  by_cases h : p <;> simp [check, h]

@[simp] theorem check_eq_error {p : Prop} [Decidable p] (f g : Failure) : check p f = .error g ↔ ¬p ∧ f = g := by
  by_cases h : p <;> simp [check, h]

/-- A command that begins with a check is one `if`. -/
theorem check_bind {p : Prop} [Decidable p] {β : Type} (f : Failure) (g : Unit → Except Failure β) :
    (check p f >>= g) = if p then g () else .error f := by
  by_cases h : p <;> simp [check, h]

/-- A body that begins with a check ends the command as the check says. -/
theorem finish_check {p : Prop} [Decidable p] (s : State) (f : Failure) (g : Unit → Except Failure State) :
    finish s (check p f >>= g) = if p then finish s (g ()) else fail f s := by
  by_cases h : p <;> simp [check, h]

theorem finish_ite {p : Prop} [Decidable p] (s : State) (x y : Except Failure State) :
    finish s (if p then x else y) = if p then finish s x else finish s y := by
  split <;> rfl

theorem finish_pure (s t : State) : finish s (pure t) = { t with status := .ok } := rfl

@[simp] theorem sessionGate_eq_ok (s : State) (u : Unit) : sessionGate s = .ok u ↔ s.sessionFailed = false := by
  simp [sessionGate]

@[simp] theorem need_eq_ok (s : State) (p : Nat) (b : Byte) : need s p = .ok b ↔ s.inp[p]? = some b := by
  unfold need State.inRead
  cases s.inp[p]? <;> simp

theorem need_eq_error (s : State) (p : Nat) (f : Failure) : need s p = .error f ↔ s.inp[p]? = none ∧ f = .plain .truncated := by
  unfold need State.inRead
  cases s.inp[p]? <;> simp [eq_comm]

theorem ck32_eq_ok (s : State) (p v q : Nat) : ck32 s p = .ok (v, q) ↔ vdec32 s.inp p s.inLen = .ok v q := by
  unfold ck32
  cases vdec32 s.inp p s.inLen <;> simp

theorem field32_eq_ok (s : State) (p v q : Nat) :
    field32 s p = .ok (v, q) ↔ vdec32 s.inp p s.inLen = .ok v q ∧ v ≤ maxField := by
  simp only [field32, bind_eq_ok, Prod.exists, ck32_eq_ok, check_eq_ok, pure_eq_ok, Except.ok.injEq, Prod.mk.injEq]
  grind

/-- R502's three checks. -/
theorem checkInstruction_eq_ok (maxMode t m sz : Nat) (u : Unit) :
    checkInstruction maxMode t m sz = .ok u ↔
      (t = 1 ∨ t = 2 ∨ t = 3) ∧ ¬((t ≠ 3 ∧ m ≠ 0) ∨ (t = 3 ∧ m > maxMode)) ∧ sz ≤ maxField := by
  simp only [checkInstruction, bind_eq_ok, check_eq_ok]
  constructor
  · rintro ⟨_, h1, _, h2, h3⟩
    exact ⟨h1, h2, h3⟩
  · rintro ⟨h1, h2, h3⟩
    exact ⟨(), h1, (), h2, h3⟩

/-- A body that begins with R502's checks ends the command as the first failing one says. -/
theorem finish_checkInstruction (s : State) (maxMode t m sz : Nat) (g : Unit → Except Failure State) :
    finish s (checkInstruction maxMode t m sz >>= g) =
      if ¬(t = 1 ∨ t = 2 ∨ t = 3) then { s with status := .malformed }
      else if (t ≠ 3 ∧ m ≠ 0) ∨ (t = 3 ∧ m > maxMode) then { s with status := .malformed }
      else if sz > maxField then { s with status := .outOfRange }
      else finish s (g ()) := by
  by_cases h1 : t = 1 ∨ t = 2 ∨ t = 3
  · by_cases h2 : (t ≠ 3 ∧ m ≠ 0) ∨ (t = 3 ∧ m > maxMode)
    · simp [checkInstruction, check, h1, h2, fail]
    · by_cases h3 : sz ≤ maxField
      · simp [checkInstruction, check, h1, h2, h3, Nat.not_lt.mpr h3]
      · simp [checkInstruction, check, h1, h2, h3, Nat.lt_of_not_le h3, fail]
  · simp [checkInstruction, check, h1, fail]

/-- On a valid type and mode the inst-mode index is their sum (R501). -/
theorem instIdx_eq_add {maxMode t m : Nat} (h1 : t = 1 ∨ t = 2 ∨ t = 3) (h2 : ¬((t ≠ 3 ∧ m ≠ 0) ∨ (t = 3 ∧ m > maxMode))) :
    instIdx (BitVec.ofNat 8 t) m = t + m := by
  rcases h1 with rfl | rfl | rfl <;> simp [instIdx, typAdd, typRun] at h2 ⊢ <;> omega

@[simp] theorem inRead_eq (s : State) (p : Nat) : s.inRead p = s.inp[p]? := rfl

end Sys2Proof.Machine
end

