-- ==== Sys2Proof/Laws/Dispatch.lean ====
section
/-! SUPPORT. The instructions as 30 commands and the opcode rows: one case analysis for every statement about all instructions. -/

namespace Sys2Proof.Machine

/-- An instruction is one of the 30 commands or an opcode row. -/
theorem instr_cases {P : Instr → Prop} (nop : P .nop) (venc32 : P .venc32) (venc64 : P .venc64) (vdec32 : P .vdec32)
    (vdec64 : P .vdec64) (ctLoadDefault : P .ctLoadDefault) (ctSetCache : P .ctSetCache) (ctWrite : P .ctWrite)
    (ctRead : P .ctRead) (ctCommit : P .ctCommit) (mapFirst : P .mapFirst) (mapSecond : P .mapSecond) (rdStart : P .rdStart)
    (rdExtend : P .rdExtend) (rdSeek : P .rdSeek) (rdGet : P .rdGet) (rdUnget : P .rdUnget) (wrAdd : P .wrAdd) (wrRun : P .wrRun)
    (wrCopy : P .wrCopy) (wrOutput : P .wrOutput) (wrDiscard : P .wrDiscard) (fhWrite : P .fhWrite) (fhParse : P .fhParse)
    (whParse : P .whParse) (winEnd : P .winEnd) (regRead : P .regRead) (regWrite : P .regWrite) (inAppend : P .inAppend)
    (reset : P .reset) (opcode : ∀ i op, i.opcode? = some op → P i) : ∀ i, P i := by
  intro i
  cases i
  all_goals first | assumption | exact opcode _ _ rfl

/-- What an opcode row does: RD_GET with that opcode byte at RD_POS (log 2). -/
theorem exec_opcode {i : Instr} {op : Byte} (h : i.opcode? = some op) (s : State) : exec i s = readOpcode op s := by
  revert h
  cases i
  all_goals intro h; first | exact Option.some.inj h ▸ rfl | (simp [Instr.opcode?, encode] at h)

/-- An opcode row is no command. -/
theorem opcode_ne {i : Instr} {op : Byte} (h : i.opcode? = some op) {c : Instr} (hc : c.opcode? = none) : i ≠ c := by
  rintro rfl
  simp [hc] at h

/-- The body of every instruction's command. -/
def bodyOf (i : Instr) : State → Except Failure State :=
  match i with
  | .nop => fun s => .ok s
  | .venc32 => venc32Body
  | .venc64 => venc64Body
  | .vdec32 => vdecBody vdec32
  | .vdec64 => vdecBody vdec64
  | .ctLoadDefault => ctLoadDefaultBody
  | .ctSetCache => ctSetCacheBody
  | .ctWrite => ctWriteBody
  | .ctRead => ctReadBody
  | .ctCommit => ctCommitBody
  | .mapFirst => mapFirstBody
  | .mapSecond => mapSecondBody
  | .rdStart => rdStartBody
  | .rdExtend => rdExtendBody
  | .rdSeek => rdSeekBody
  | .rdGet => rdGetBody
  | .rdUnget => rdUngetBody
  | .wrAdd => wrAddBody
  | .wrRun => wrRunBody
  | .wrCopy => wrCopyBody
  | .wrOutput => wrOutputBody
  | .wrDiscard => fun s => .ok s.clearWindow
  | .fhWrite => fhWriteBody
  | .fhParse => fhParseBody
  | .whParse => whParseBody
  | .winEnd => winEndBody
  | .regRead => regReadBody
  | .regWrite => regWriteBody
  | .inAppend => inAppendBody
  | .reset => fun s => .ok s.afterReset
  | i => fun s => rdGetOn (s.unreadFrom (encode i).2) s

/-- Every instruction is a command over its body, so it always answers a next state (R1007). -/
theorem exec_eq (i : Instr) (s : State) : exec i s = .next (finish s (bodyOf i s)) := by
  cases i <;> rfl

theorem exec_next (i : Instr) (s t : State) : exec i s = .next t ↔ finish s (bodyOf i s) = t := by
  rw [exec_eq, Host.Outcome.next.injEq]

theorem bodyOf_opcode {i : Instr} {op : Byte} (h : i.opcode? = some op) (s : State) :
    bodyOf i s = rdGetOn (s.unreadFrom op) s := by
  revert h
  cases i
  all_goals intro h; first | exact Option.some.inj h ▸ rfl | (simp [Instr.opcode?, encode] at h)

end Sys2Proof.Machine
end

