-- ==== Sys2Proof/Laws/Varint.lean ====
section
/-! SUPPORT. What the varint functions do, said once: a decode's bounds, a decode of a well-formed run of bytes, and the shape
of an encoding. -/

namespace Sys2Proof.Machine

/-- The value of a run of groups after `val` (R310). -/
def groupsValue (val : Nat) (bytes : List Byte) : Nat := bytes.foldl (fun a b => a * 128 + b.toNat % 128) val

@[simp] theorem groupsValue_nil (val : Nat) : groupsValue val [] = val := rfl

@[simp] theorem groupsValue_cons (val : Nat) (b : Byte) (rest : List Byte) :
    groupsValue val (b :: rest) = groupsValue (val * 128 + b.toNat % 128) rest := rfl

theorem groupsValue_append (val : Nat) (xs ys : List Byte) :
    groupsValue val (xs ++ ys) = groupsValue (groupsValue val xs) ys := by
  simp [groupsValue, List.foldl_append]

/-- What an OK decode guarantees: it read at least one and at most MAXB bytes, all below the limit, and the value fits (R403, R406). -/
theorem vdecLoop_ok {inp : List Byte} {vmax lim : Nat} :
    ∀ {left val q v q' : Nat}, vdecLoop inp vmax lim left val q = .ok v q' →
      q < q' ∧ q' ≤ lim ∧ q' ≤ q + left ∧ q' ≤ inp.length ∧ v ≤ vmax := by
  intro left
  induction left with
  | zero =>
    intro val q v q' h
    unfold vdecLoop at h
    split at h <;> simp at h
  | succ n ih =>
    intro val q v q' h
    unfold vdecLoop at h
    split at h
    · simp at h
    · next hlim =>
      simp only at h
      split at h
      · simp at h
      · next b hb =>
        have hlen : q < inp.length := (List.getElem?_eq_some_iff.mp hb).1
        split at h
        · split at h
          · simp at h
          · simp only [VarintOutcome.ok.injEq] at h
            omega
        · have := ih h
          omega

/-- A decode depends only on the bytes below the limit, and a larger limit does not change an OK (R422). -/
theorem vdecLoop_ok_extend {inp : List Byte} {vmax lim lim' : Nat} (more : List Byte) :
    ∀ {left val q v q' : Nat}, vdecLoop inp vmax lim left val q = .ok v q' → q' ≤ lim' →
      vdecLoop (inp ++ more) vmax lim' left val q = .ok v q' := by
  intro left
  induction left with
  | zero =>
    intro val q v q' h _
    unfold vdecLoop at h
    split at h <;> simp at h
  | succ n ih =>
    intro val q v q' h hle
    have hb := vdecLoop_ok h
    unfold vdecLoop at h ⊢
    rw [if_neg (by omega)] at h ⊢
    simp only at h ⊢
    rw [List.getElem?_append_left (by omega)]
    split at h
    · simp at h
    · next b _ =>
      split at h
      · split at h
        · simp at h
        · next h1 h2 =>
          rw [if_pos h1, if_neg h2]
          exact h
      · next h1 =>
        rw [if_neg h1]
        exact ih h hle

/-- The decode of continuation bytes `cs` and a last byte: the value of the groups, or MALFORMED if it is too large (R403). -/
theorem vdecLoop_run {inp : List Byte} {vmax lim : Nat} (last : Byte) (hl : last.toNat < 128) (post : List Byte) :
    ∀ (cs : List Byte) (left val q : Nat), (∀ b ∈ cs, 128 ≤ b.toNat) → cs.length < left →
      inp.drop q = cs ++ last :: post → q + cs.length < lim →
      vdecLoop inp vmax lim left val q =
        if groupsValue val (cs ++ [last]) > vmax then .malformed
        else .ok (groupsValue val (cs ++ [last])) (q + cs.length + 1) := by
  intro cs
  induction cs with
  | nil =>
    intro left val q _ hleft hinp hlim
    obtain ⟨n, rfl⟩ : ∃ n, left = n + 1 := ⟨left - 1, by simp at hleft; omega⟩
    have hb : inp[q]? = some last := by
      have := congrArg (·[0]?) hinp
      simpa using this
    unfold vdecLoop
    rw [if_neg (by simp at hlim; omega)]
    simp [hb, hl]
  | cons c rest ih =>
    intro left val q hcs hleft hinp hlim
    obtain ⟨n, rfl⟩ : ∃ n, left = n + 1 := ⟨left - 1, by simp at hleft; omega⟩
    have hb : inp[q]? = some c := by
      have := congrArg (·[0]?) hinp
      simpa using this
    have hc : 128 ≤ c.toNat := hcs c (by simp)
    have hdrop : inp.drop (q + 1) = rest ++ last :: post := by
      have := congrArg (List.drop 1) hinp
      simpa [List.drop_drop, Nat.add_comm] using this
    simp only [List.length_cons] at hleft hlim
    unfold vdecLoop
    rw [if_neg (by omega)]
    simp only [hb]
    rw [if_neg (by omega), ih n _ (q + 1) (fun b hb => hcs b (by simp [hb])) (by omega) hdrop (by omega)]
    simp only [List.cons_append, groupsValue_cons, List.length_cons]
    rw [show q + 1 + rest.length + 1 = q + (rest.length + 1) + 1 by omega]
    rfl

/-- The shape of the encoding loop: continuation bytes before the groups it is given. -/
theorem vencLoop_shape : ∀ (fuel v : Nat) (groups : List Byte), v < 128 ^ fuel →
    ∃ cs, vencLoop fuel v groups = cs ++ groups ∧ (∀ b ∈ cs, 128 ≤ b.toNat) ∧ groupsValue 0 cs = v ∧
      cs.length ≤ fuel ∧ (v = 0 → cs = []) ∧ (∀ n, v < 128 ^ n → cs.length ≤ n) ∧ (cs.head? ≠ some 128) := by
  intro fuel
  induction fuel with
  | zero =>
    intro v groups hv
    refine ⟨[], by simp [vencLoop], by simp, ?_, by simp, by simp, by simp, by simp⟩
    simp at hv
    simp [hv]
  | succ n ih =>
    intro v groups hv
    unfold vencLoop
    by_cases h0 : v > 0
    · rw [if_pos h0]
      obtain ⟨cs, h1, h2, h3, h4, h5, h6, h7⟩ := ih (v / 128) (BitVec.ofNat 8 (128 + v % 128) :: groups)
        (by rw [Nat.div_lt_iff_lt_mul (by omega), ← Nat.pow_succ]; exact hv)
      have hb : (BitVec.ofNat 8 (128 + v % 128)).toNat = 128 + v % 128 := by
        simp only [BitVec.toNat_ofNat]
        omega
      refine ⟨cs ++ [BitVec.ofNat 8 (128 + v % 128)], ?_, ?_, ?_, ?_, ?_, ?_, ?_⟩
      · simp [h1]
      · intro b hbm
        rcases List.mem_append.mp hbm with hbm | hbm
        · exact h2 b hbm
        · simp only [List.mem_singleton] at hbm
          subst hbm
          omega
      · rw [groupsValue_append, h3]
        simp only [groupsValue_cons, groupsValue_nil, hb]
        omega
      · simpa using h4
      · omega
      · intro k hk
        cases k with
        | zero => simp at hk; omega
        | succ k =>
          have := h6 k (by rw [Nat.div_lt_iff_lt_mul (by omega), ← Nat.pow_succ]; exact hk)
          simpa using this
      · cases hcs : cs with
        | nil =>
          have hz : v / 128 = 0 := by simpa [hcs] using h3.symm
          simp only [List.nil_append, List.head?_cons, ne_eq, Option.some.injEq]
          intro hcon
          have := congrArg BitVec.toNat hcon
          rw [hb] at this
          simp at this
          omega
        | cons c r =>
          rw [hcs] at h7
          simpa using h7
    · rw [if_neg h0]
      have : v = 0 := by omega
      subst this
      refine ⟨[], by simp, by simp, rfl, by simp, by simp, by simp, by simp⟩

/-- The shape of a canonical varint (R310, R311, R401): continuation bytes, then one byte below 128, with the value of the groups. -/
theorem venc_shape (v : Nat) (hv : v < 128 ^ 10) :
    ∃ cs, ∃ last : Byte, venc v = cs ++ [last] ∧ (∀ b ∈ cs, 128 ≤ b.toNat) ∧ last.toNat < 128 ∧
      groupsValue 0 (cs ++ [last]) = v ∧ (∀ n, v < 128 ^ (n + 1) → cs.length ≤ n) ∧ cs.head? ≠ some 128 := by
  obtain ⟨cs, h1, h2, h3, _, _, h6, h7⟩ := vencLoop_shape 9 (v / 128) [BitVec.ofNat 8 (v % 128)] (by
    rw [Nat.div_lt_iff_lt_mul (by omega), ← Nat.pow_succ]
    exact hv)
  have hb : (BitVec.ofNat 8 (v % 128)).toNat = v % 128 := by
    simp only [BitVec.toNat_ofNat]
    omega
  refine ⟨cs, BitVec.ofNat 8 (v % 128), h1, h2, by omega, ?_, ?_, h7⟩
  · rw [groupsValue_append, h3]
    simp only [groupsValue_cons, groupsValue_nil, hb]
    omega
  · intro n hn
    exact h6 n (by rw [Nat.div_lt_iff_lt_mul (by omega), ← Nat.pow_succ]; exact hn)

theorem venc_length_pos (v : Nat) : 0 < (venc v).length := by
  have h : ∀ fuel v groups, 0 < groups.length → 0 < (vencLoop fuel v groups).length := by
    intro fuel
    induction fuel with
    | zero => intro v groups h; simpa [vencLoop] using h
    | succ n ih =>
      intro v groups h
      unfold vencLoop
      split
      · exact ih _ _ (by simp)
      · exact h
  exact h _ _ _ (by simp)

theorem venc_length_le (v : Nat) : (venc v).length ≤ 10 := by
  have h : ∀ fuel v groups, (vencLoop fuel v groups).length ≤ fuel + groups.length := by
    intro fuel
    induction fuel with
    | zero => intro v groups; simp [vencLoop]
    | succ n ih =>
      intro v groups
      unfold vencLoop
      split
      · refine (ih _ _).trans ?_
        simp only [List.length_cons]
        omega
      · omega
  exact (h 9 _ _).trans (by simp)

/-- A run of groups has fewer values than its length allows. -/
theorem groupsValue_lt (l : List Byte) (v : Nat) : groupsValue v l < (v + 1) * 128 ^ l.length := by
  induction l generalizing v with
  | nil => simp
  | cons b bs ih =>
    simp only [groupsValue_cons, List.length_cons, Nat.pow_succ]
    refine (ih _).trans_le ?_
    rw [← Nat.mul_assoc, Nat.mul_right_comm]
    refine Nat.mul_le_mul_right _ ?_
    omega

/-- Nothing but continuation bytes up to the limit, and not too many of them: TRUNCATED (R403). -/
theorem vdecLoop_truncated {inp : List Byte} {vmax lim : Nat} : ∀ (left val q : Nat), lim ≤ inp.length → lim - q ≤ left →
    (∀ b ∈ (inp.drop q).take (lim - q), 128 ≤ b.toNat) → vdecLoop inp vmax lim left val q = .truncated := by
  intro left
  induction left with
  | zero =>
    intro val q h1 h2 h3
    unfold vdecLoop
    rw [if_pos (by omega)]
  | succ n ih =>
    intro val q h1 h2 h3
    unfold vdecLoop
    by_cases hq : q ≥ lim
    · rw [if_pos hq]
    · rw [if_neg hq]
      have hlt : q < inp.length := by omega
      simp only [List.getElem?_eq_getElem hlt]
      have hd : inp.drop q = inp[q] :: inp.drop (q+1) := by simp
      rw [hd, show lim - q = (lim - (q+1)) + 1 by omega, List.take_succ_cons] at h3
      have hb := h3 inp[q] (by simp)
      rw [if_neg (by omega)]
      exact ih _ _ h1 (by omega) (fun b hb => h3 b (by simp [hb]))

/-- More continuation bytes than MAXB: MALFORMED (R403). -/
theorem vdecLoop_malformed {inp : List Byte} {vmax lim : Nat} : ∀ (left val q : Nat), lim ≤ inp.length → left < lim - q →
    (∀ b ∈ (inp.drop q).take left, 128 ≤ b.toNat) → vdecLoop inp vmax lim left val q = .malformed := by
  intro left
  induction left with
  | zero =>
    intro val q h1 h2 h3
    unfold vdecLoop
    rw [if_neg (by omega)]
  | succ n ih =>
    intro val q h1 h2 h3
    unfold vdecLoop
    · rw [if_neg (by omega)]
      have hlt : q < inp.length := by omega
      simp only [List.getElem?_eq_getElem hlt]
      have hd : inp.drop q = inp[q] :: inp.drop (q+1) := by simp
      rw [hd, List.take_succ_cons] at h3
      have hb := h3 inp[q] (by simp)
      rw [if_neg (by omega)]
      exact ih _ _ h1 (by omega) (fun b hb => h3 b (by simp [hb]))

/-- A decode of an encoding gives the value back (R420). -/
theorem vdecLoop_venc {inp : List Byte} {vmax lim left p v : Nat} (hv : v < 128 ^ 10) (hmax : v ≤ vmax)
    (hleft : vlen v ≤ left) (hin : (inp.drop p).take (vlen v) = venc v) (hlim : p + vlen v ≤ lim) :
    vdecLoop inp vmax lim left 0 p = .ok v (p + vlen v) := by
  obtain ⟨cs, last, h1, h2, h3, h4, h5, h6⟩ := venc_shape v hv
  have hl : vlen v = cs.length + 1 := by simp [vlen, h1]
  have hd : inp.drop p = cs ++ last :: (inp.drop p).drop (vlen v) := by
    conv_lhs => rw [← List.take_append_drop (vlen v) (inp.drop p), hin, h1]
    simp
  have := vdecLoop_run (vmax := vmax) (lim := lim) last h3 _ cs left 0 p h2 (by omega) hd (by omega)
  rw [this, h4, if_neg (by omega), hl]; rfl

/-- A decode of a proper prefix of an encoding is TRUNCATED (R421). -/
theorem vdecLoop_venc_short {inp : List Byte} {vmax lim left p v : Nat} (hv : v < 128 ^ 10) (hleft : vlen v ≤ left)
    (hin : (inp.drop p).take (vlen v) = venc v) (hlen : p + vlen v ≤ inp.length) (hp : p ≤ lim) (hlim : lim < p + vlen v) :
    vdecLoop inp vmax lim left 0 p = .truncated := by
  obtain ⟨cs, last, h1, h2, h3, h4, h5, h6⟩ := venc_shape v hv
  have hl : vlen v = cs.length + 1 := by simp [vlen, h1]
  refine vdecLoop_truncated _ _ _ (by omega) (by omega) ?_
  intro b hb
  have : (inp.drop p).take (lim - p) = cs.take (lim - p) := by
    have : (inp.drop p).take (lim - p) = ((inp.drop p).take (vlen v)).take (lim - p) := by
      rw [List.take_take]; congr 1; omega
    rw [this, hin, h1, List.take_append_of_le_length (by omega)]
  rw [this] at hb
  exact h2 b (List.mem_of_mem_take hb)

/-- Where a decode is OK, a limit short of its end makes it TRUNCATED, whatever follows (R422). -/
theorem vdecLoop_truncated_of_ok {inp : List Byte} {vmax lim lim' : Nat} (more : List Byte) :
    ∀ {left val q v q' : Nat}, vdecLoop inp vmax lim left val q = .ok v q' → q ≤ lim' → lim' < q' →
      vdecLoop (inp ++ more) vmax lim' left val q = .truncated := by
  intro left
  induction left with
  | zero =>
    intro val q v q' h _
    unfold vdecLoop at h
    split at h <;> simp at h
  | succ n ih =>
    intro val q v q' h hle hlt
    have hb := vdecLoop_ok h
    unfold vdecLoop at h ⊢
    by_cases hq : q ≥ lim'
    · rw [if_pos hq]
    rw [if_neg (by omega)] at h ⊢
    simp only at h ⊢
    rw [List.getElem?_append_left (by omega)]
    split at h
    · simp at h
    · next b _ =>
      split at h
      · split at h
        · simp at h
        · next h1 h2 =>
          simp at h; omega
      · next h1 =>
        rw [if_neg h1]
        exact ih h (by omega) hlt

/-- A larger limit does not change a MALFORMED (R422). -/
theorem vdecLoop_malformed_extend {inp : List Byte} {vmax lim lim' : Nat} (more : List Byte) (hlim : lim ≤ inp.length) (hle : lim ≤ lim') :
    ∀ {left val q : Nat}, vdecLoop inp vmax lim left val q = .malformed →
      vdecLoop (inp ++ more) vmax lim' left val q = .malformed := by
  intro left
  induction left with
  | zero =>
    intro val q h
    unfold vdecLoop at h ⊢
    split at h
    · simp at h
    · rw [if_neg (by omega)]
  | succ n ih =>
    intro val q h
    unfold vdecLoop at h ⊢
    by_cases hq : q ≥ lim
    · simp [hq] at h
    rw [if_neg (by omega)] at h ⊢
    simp only at h ⊢
    rw [List.getElem?_append_left (by omega)]
    split at h
    · simp at h
    · next b _ =>
      split at h
      · split at h
        · next h1 h2 => rw [if_pos h1, if_pos h2]
        · simp at h
      · next h1 =>
        rw [if_neg h1]
        exact ih h

end Sys2Proof.Machine
end

