-- ==== Sys2Proof/Laws/Reader.lean ====
section
/-! SUPPORT. What the reader's parts do, said once: the unread bytes, the scan over bare NOOPs (`42_reader.md` R603), and the end of
an RD_GET (R604). -/

namespace Sys2Proof.Machine

@[simp] theorem nextHalf_pending (ct : List Host.Cell) (op : Byte) (bytes : List Byte) (p : Nat) :
    nextHalf ct (some op) bytes p = .found (secondHalf ct op.toNat) none p := by
  cases bytes <;> rfl

@[simp] theorem nextHalf_nil (ct : List Host.Cell) (p : Nat) : nextHalf ct none [] p = .exhausted p := rfl

/-- An opcode that is no bare NOOP ends the scan. -/
theorem nextHalf_op {ct : List Host.Cell} {op : Byte} (h : ¬bareNoop ct op) (rest : List Byte) (p : Nat) :
    nextHalf ct none (op :: rest) p = .found (returnedHalf ct op) (pendingAfter ct op) (p + 1) := by
  simp only [nextHalf, returnedHalf, pendingAfter]
  by_cases h1 : (firstHalf ct op.toNat).typ = typNoop
  · have h2 : (secondHalf ct op.toNat).typ ≠ typNoop := fun h2 => h ⟨h1, h2⟩
    rw [if_neg (by simpa using h1), if_pos h2, nextHalf_pending, if_pos h1, if_neg (by simp [h1])]
  · by_cases h2 : (secondHalf ct op.toNat).typ = typNoop <;> simp [h1, h2]

/-- Bare NOOPs are skipped. -/
theorem nextHalf_skip {ct : List Host.Cell} {skipped : List Byte} (h : ∀ b ∈ skipped, bareNoop ct b) (rest : List Byte) (p : Nat) :
    nextHalf ct none (skipped ++ rest) p = nextHalf ct none rest (p + skipped.length) := by
  induction skipped generalizing p with
  | nil => simp
  | cons b bs ih =>
    have hb := h b (by simp)
    rw [List.cons_append]
    simp only [nextHalf, hb.1, hb.2, ne_eq, not_true_eq_false, if_false]
    rw [ih (fun x hx => h x (by simp [hx]))]
    simp only [List.length_cons]
    congr 1
    omega

/-- Any bytes are bare NOOPs up to the first opcode that is not, if there is one. -/
theorem scan_split (ct : List Host.Cell) (bytes : List Byte) :
    (∀ b ∈ bytes, bareNoop ct b) ∨
      ∃ skipped op rest, bytes = skipped ++ op :: rest ∧ (∀ b ∈ skipped, bareNoop ct b) ∧ ¬bareNoop ct op := by
  induction bytes with
  | nil => exact .inl (by simp)
  | cons b bs ih =>
    by_cases hb : bareNoop ct b
    · rcases ih with ih | ⟨sk, op, rest, rfl, h1, h2⟩
      · exact .inl (fun x hx => by
          rcases List.mem_cons.mp hx with rfl | hx
          · exact hb
          · exact ih x hx)
      · exact .inr ⟨b :: sk, op, rest, rfl, fun x hx => by
          rcases List.mem_cons.mp hx with rfl | hx
          · exact hb
          · exact h1 x hx, h2⟩
    · exact .inr ⟨[], b, bs, rfl, by simp, hb⟩

/-- The scan's two ends, in terms of the bytes. -/
theorem nextHalf_eq_exhausted (ct : List Host.Cell) (bytes : List Byte) (p q : Nat) :
    nextHalf ct none bytes p = .exhausted q ↔ (∀ b ∈ bytes, bareNoop ct b) ∧ q = p + bytes.length := by
  rcases scan_split ct bytes with h | ⟨sk, op, rest, rfl, h1, h2⟩
  · have := nextHalf_skip h [] p
    rw [List.append_nil, nextHalf_nil] at this
    rw [this, Scan.exhausted.injEq]
    constructor
    · rintro rfl
      exact ⟨h, rfl⟩
    · rintro ⟨-, rfl⟩
      rfl
  · rw [nextHalf_skip h1, nextHalf_op h2]
    constructor
    · simp
    · rintro ⟨h, -⟩
      exact absurd (h op (by simp)) h2

theorem nextHalf_eq_found (ct : List Host.Cell) (bytes : List Byte) (p q : Nat) (h : Half) (pend : Option Byte) :
    nextHalf ct none bytes p = .found h pend q ↔
      ∃ skipped op rest, bytes = skipped ++ op :: rest ∧ (∀ b ∈ skipped, bareNoop ct b) ∧ ¬bareNoop ct op ∧
        h = returnedHalf ct op ∧ pend = pendingAfter ct op ∧ q = p + skipped.length + 1 := by
  constructor
  · intro hf
    rcases scan_split ct bytes with hb | ⟨sk, op, rest, rfl, h1, h2⟩
    · have := (nextHalf_eq_exhausted ct bytes p _).2 ⟨hb, rfl⟩
      rw [hf] at this
      cases this
    · rw [nextHalf_skip h1, nextHalf_op h2, Scan.found.injEq] at hf
      exact ⟨sk, op, rest, rfl, h1, h2, hf.1.symm, hf.2.1.symm, hf.2.2.symm⟩
  · rintro ⟨sk, op, rest, rfl, h1, h2, rfl, rfl, rfl⟩
    rw [nextHalf_skip h1, nextHalf_op h2]

/-- The half an opcode that is no bare NOOP returns is not NOOP. -/
theorem returnedHalf_typ {ct : List Host.Cell} {op : Byte} : (returnedHalf ct op).typ ≠ typNoop ↔ ¬bareNoop ct op := by
  unfold returnedHalf
  split
  · next h => simp [bareNoop, h]
  · next h => simp [bareNoop, h]

theorem pendingAfter_eq_some {ct : List Host.Cell} {op o : Byte} :
    pendingAfter ct op = some o ↔ o = op ∧ (firstHalf ct op.toNat).typ ≠ typNoop ∧ (secondHalf ct op.toNat).typ ≠ typNoop := by
  unfold pendingAfter
  split
  · next h => simp [h, eq_comm]
  · next h =>
    constructor
    · simp
    · rintro ⟨rfl, h1⟩
      exact absurd h1 h

section unread

variable (s : State)

theorem unread_length : s.unread.length = min s.rdEnd.toNat s.inLen - s.rdPos.toNat := by
  simp [State.unread, State.inLen]

theorem unreadFrom_length (op : Byte) : (s.unreadFrom op).length = s.unread.length := by
  unfold State.unreadFrom
  cases s.unread <;> simp

theorem unreadFrom_head {op : Byte} {rest : List Byte} (h : s.unread = op :: rest) : s.unreadFrom op = s.unread := by
  simp [State.unreadFrom, h]

theorem unreadFrom_cons {b : Byte} {rest : List Byte} (op : Byte) (h : s.unread = b :: rest) : s.unreadFrom op = op :: rest := by
  simp [State.unreadFrom, h]

/-- The unread bytes are the bytes of IN from RD_POS on, below RD_END. -/
theorem unread_getElem? (i : Nat) : s.unread[i]? = if s.rdPos.toNat + i < s.rdEnd.toNat then s.inp[s.rdPos.toNat + i]? else none := by
  simp only [State.unread, List.getElem?_drop, List.getElem?_take]

end unread

/-- The gates of RD_GET, passed with nothing pushed back. -/
theorem rdGetOn_scan {s : State} {bytes : List Byte} (h1 : s.sessionFailed = false) (h2 : s.readerActive = true)
    (h3 : s.tableValid = true) (h4 : s.pushbackInst = none) :
    rdGetOn bytes s =
      match nextHalf s.ct s.pendingOp bytes s.rdPos.toNat with
      | .exhausted p => .error (.exhausted p)
      | .found h pend p => do
        let (sz, q) ← halfSize s h p
        let r : InstRecord := { typ := h.typ, size := w64 sz, mode := h.mode }
        return { s with rdPos := w64 q, pendingOp := pend, lastInst := some r }.returnRecord r q := by
  simp only [rdGetOn, sessionGate, check, h1, h2, h3, and_self, if_true, ok_bind, h4] <;> rfl

/-- RD_GET once a half is found (R604, steps 3 and 4). -/
theorem rdGetOn_found {s : State} {bytes : List Byte} (h1 : s.sessionFailed = false) (h2 : s.readerActive = true)
    (h3 : s.tableValid = true) (h4 : s.pushbackInst = none) {h : Half} {pend : Option Byte} {p : Nat}
    (hn : nextHalf s.ct s.pendingOp bytes s.rdPos.toNat = .found h pend p) :
    finish s (rdGetOn bytes s) = sizedReturn s h pend p := by
  rw [rdGetOn_scan h1 h2 h3 h4, hn]
  simp only [halfSize, sizedReturn]
  by_cases hz : h.size = 0
  · simp only [hz, ne_eq, not_true_eq_false, if_false]
    cases vdec32 s.inp p s.rdEnd.toNat with
    | truncated => rfl
    | malformed => rfl
    | ok v q =>
      simp only
      split
      · rfl
      · simp only [ok_bind, finish_pure, State.returnRecord, State.setRes, returned, w64_of_toNat]
  · simp only [hz, ne_eq, not_false_eq_true, if_true, ok_bind, finish_pure, State.returnRecord, State.setRes, returned,
      w64_of_toNat]

/-- RD_GET at the end of the stream (R604). -/
theorem rdGetOn_exhausted {s : State} {bytes : List Byte} (h1 : s.sessionFailed = false) (h2 : s.readerActive = true)
    (h3 : s.tableValid = true) (h4 : s.pushbackInst = none) {p : Nat}
    (hn : nextHalf s.ct s.pendingOp bytes s.rdPos.toNat = .exhausted p) :
    finish s (rdGetOn bytes s) = { s with status := .truncated, rdPos := w64 p } := by
  rw [rdGetOn_scan h1 h2 h3 h4, hn]
  rfl

/-- Everything an RD_GET that ends OK can do: return the pushed-back record, or a half with its size. -/
theorem rdGetOn_ok {s t : State} {bytes : List Byte} (h : rdGetOn bytes s = .ok t) :
    s.sessionFailed = false ∧ s.readerActive = true ∧ s.tableValid = true ∧
      ((∃ r, s.pushbackInst = some r ∧
          t = { s with pushbackInst := none, lastInst := some r }.returnRecord r s.rdPos.toNat) ∨
        (s.pushbackInst = none ∧ ∃ hf pend p sz q, nextHalf s.ct s.pendingOp bytes s.rdPos.toNat = .found hf pend p ∧
          halfSize s hf p = .ok (sz, q) ∧
          t = { s with
            rdPos := w64 q, pendingOp := pend,
            lastInst := some { typ := hf.typ, size := w64 sz, mode := hf.mode } }.returnRecord
              { typ := hf.typ, size := w64 sz, mode := hf.mode } q)) := by
  simp only [rdGetOn, bind_eq_ok, sessionGate_eq_ok, check_eq_ok] at h
  obtain ⟨_, h1, _, ⟨h2, h3⟩, h⟩ := h
  refine ⟨h1, h2, h3, ?_⟩
  cases hp : s.pushbackInst with
  | some r =>
    simp only [hp, pure_eq_ok, Except.ok.injEq] at h
    exact .inl ⟨r, rfl, h.symm⟩
  | none =>
    refine .inr ⟨rfl, ?_⟩
    simp only [hp] at h
    cases hn : nextHalf s.ct s.pendingOp bytes s.rdPos.toNat with
    | exhausted p => simp [hn] at h
    | found hf pend p =>
      simp only [hn, bind_eq_ok, Prod.exists, pure_eq_ok, Except.ok.injEq] at h
      obtain ⟨sz, q, h5, h6⟩ := h
      exact ⟨hf, pend, p, sz, q, rfl, h5, h6.symm⟩

/-- Everything an RD_GET that fails can do. -/
theorem rdGetOn_error {s : State} {bytes : List Byte} {f : Failure} (h : rdGetOn bytes s = .error f) :
    (s.sessionFailed = true ∧ f = .plain .sessionFailed) ∨
      (s.sessionFailed = false ∧ ¬(s.readerActive = true ∧ s.tableValid = true) ∧ f = .plain .stateError) ∨
      (s.sessionFailed = false ∧ s.readerActive = true ∧ s.tableValid = true ∧ s.pushbackInst = none ∧
        ((∃ p, nextHalf s.ct s.pendingOp bytes s.rdPos.toNat = .exhausted p ∧ f = .exhausted p) ∨
          f = .plain .truncated ∨ f = .stream .malformed)) := by
  simp only [rdGetOn, bind_eq_error, sessionGate, check_eq_error, check_eq_ok] at h
  rcases h with ⟨h1, rfl⟩ | ⟨_, h1, ⟨h2, rfl⟩ | ⟨_, ⟨h2, h3⟩, h⟩⟩
  · exact .inl ⟨by simpa using h1, rfl⟩
  · exact .inr (.inl ⟨h1, h2, rfl⟩)
  · refine .inr (.inr ⟨h1, h2, h3, ?_⟩)
    cases hp : s.pushbackInst with
    | some r => simp [hp] at h
    | none =>
      refine ⟨rfl, ?_⟩
      simp only [hp] at h
      cases hn : nextHalf s.ct s.pendingOp bytes s.rdPos.toNat with
      | exhausted p =>
        simp only [hn, Except.error.injEq] at h
        exact .inl ⟨p, rfl, h.symm⟩
      | found hf pend p =>
        simp only [hn, bind_eq_error] at h
        rcases h with h | ⟨_, _, h⟩
        · refine .inr ?_
          unfold halfSize at h
          split at h
          · simp at h
          · split at h
            · exact .inl (by simpa using h.symm)
            · exact .inr (by simpa using h.symm)
            · split at h
              · exact .inr (by simpa using h.symm)
              · simp at h
        · simp at h

/-- The size of a half and the position past it (R604, step 3). -/
theorem halfSize_ok {s : State} {h : Half} {p sz q : Nat} (hs : halfSize s h p = .ok (sz, q)) :
    (h.size ≠ 0 ∧ sz = h.size.toNat ∧ q = p) ∨
      (h.size = 0 ∧ vdec32 s.inp p s.rdEnd.toNat = .ok sz q ∧ sz ≤ maxField) := by
  unfold halfSize at hs
  split at hs
  · next hz =>
    simp only [Except.ok.injEq, Prod.mk.injEq] at hs
    exact .inl ⟨hz, hs.1.symm, hs.2.symm⟩
  · next hz =>
    refine .inr ⟨by simpa using hz, ?_⟩
    split at hs
    · simp at hs
    · simp at hs
    · next v q' hv =>
      split at hs
      · simp at hs
      · simp only [Except.ok.injEq, Prod.mk.injEq] at hs
        obtain ⟨rfl, rfl⟩ := hs
        exact ⟨hv, by omega⟩

end Sys2Proof.Machine
end

