-- ==== Sys2Proof/Laws/Bodies.lean ====
section
/-! SUPPORT. What each command does when it ends OK, said once, and how it can fail (`60_exceptions.md` R1002, R1003). Statements
about every instruction cite these through `instr_cases` and do not unfold a body. -/

namespace Sys2Proof.Machine

variable {s t : State}

theorem ctMutable_eq_ok (u : Unit) : ctMutable s = .ok u ↔ s.readerActive = false ∧ s.wrInstCount = 0 := by simp [ctMutable]

theorem writerGate_eq_ok (u : Unit) : writerGate s = .ok u ↔ s.encOpen = true ∧ s.tableValid = true := by
  simp [writerGate, bind_eq_ok]

theorem needOpcode_eq_ok (o : Option Byte) (op : Byte) : needOpcode o = .ok op ↔ o = some op := by cases o <;> simp [needOpcode]

theorem venc32Body_ok : venc32Body s = .ok t ↔
    t = (s.outAppend (venc (narrow s.a0 32))).setRes0 (venc (narrow s.a0 32)).length := by
  simp [venc32Body, eq_comm (a := t)]

theorem venc64Body_ok : venc64Body s = .ok t ↔
    s.a0 ≤ varint64Max ∧ t = (s.outAppend (venc s.a0)).setRes0 (venc s.a0).length := by
  simp [venc64Body, bind_eq_ok, eq_comm (a := t)]

theorem vdecBody_ok (dec : List Byte → Nat → Nat → VarintOutcome) : vdecBody dec s = .ok t ↔
    (s.a0 ≤ s.a1 ∧ s.a1 ≤ s.inLen) ∧ ∃ v q, dec s.inp s.a0 s.a1 = .ok v q ∧ t = s.setRes01 v q := by
  simp only [vdecBody, bind_eq_ok, check_eq_ok]
  cases dec s.inp s.a0 s.a1 <;> simp [eq_comm (a := t)]

theorem ctLoadDefaultBody_ok : ctLoadDefaultBody s = .ok t ↔
    (s.readerActive = false ∧ s.wrInstCount = 0) ∧ t = { s with
      ct := defaultCt, nearSize := w64 defaultNear, sameSize := w64 defaultSame, first := buildFirst defaultCt,
      second := buildSecond defaultCt (buildFirst defaultCt), tableValid := true } := by
  simp [ctLoadDefaultBody, bind_eq_ok, ctMutable_eq_ok, eq_comm (a := t)]

theorem ctSetCacheBody_ok : ctSetCacheBody s = .ok t ↔
    (s.readerActive = false ∧ s.wrInstCount = 0) ∧ (s.a0 ≤ cacheLimit ∧ s.a1 ≤ cacheLimit ∧ s.a0 + s.a1 ≤ cacheLimit) ∧
      t = { s with nearSize := s.arg.r0, sameSize := s.arg.r1, tableValid := false }.setRes0 (1 + s.a0 + s.a1) := by
  simp [ctSetCacheBody, bind_eq_ok, ctMutable_eq_ok, eq_comm (a := t), and_assoc]

theorem ctWriteBody_ok : ctWriteBody s = .ok t ↔
    (s.readerActive = false ∧ s.wrInstCount = 0) ∧ s.a0 ≤ 5 ∧ (s.a1 ≤ 255 ∧ s.a2 ≤ 255) ∧
      t = { s with ct := ctSet s.ct s.a0 s.a1 (BitVec.ofNat 8 s.a2), tableValid := false } := by
  simp [ctWriteBody, bind_eq_ok, ctMutable_eq_ok, eq_comm (a := t), and_assoc]

theorem ctReadBody_ok : ctReadBody s = .ok t ↔
    s.a0 ≤ 5 ∧ s.a1 ≤ 255 ∧ t = s.setRes0 (ctByte s.ct s.a0 s.a1).toNat := by
  simp [ctReadBody, bind_eq_ok, eq_comm (a := t)]

theorem ctCommitBody_ok : ctCommitBody s = .ok t ↔
    validate s.ct s.maxMode = true ∧ t = { s with
      first := buildFirst s.ct, second := buildSecond s.ct (buildFirst s.ct), tableValid := true } := by
  simp [ctCommitBody, bind_eq_ok, eq_comm (a := t)]

theorem mapFirstBody_ok (h : mapFirstBody s = .ok t) : s.tableValid = true ∧ ∃ v0 v1, t = s.setRes01 v0 v1 := by
  simp only [mapFirstBody, bind_eq_ok, check_eq_ok, pure_eq_ok, Except.ok.injEq] at h
  obtain ⟨_, h1, _, _, o, _, rfl⟩ := h
  exact ⟨h1, _, _, rfl⟩

theorem mapSecondBody_ok (h : mapSecondBody s = .ok t) : s.tableValid = true ∧ ∃ v0 v1 v2, t = s.setRes012 v0 v1 v2 := by
  simp only [mapSecondBody, bind_eq_ok, check_eq_ok] at h
  obtain ⟨_, h1, _, _, _, _, h⟩ := h
  refine ⟨h1, ?_⟩
  split at h
  · exact ⟨_, _, _, (Except.ok.inj h).symm⟩
  · exact ⟨_, _, _, (Except.ok.inj h).symm⟩

theorem rdStartBody_ok : rdStartBody s = .ok t ↔
    s.sessionFailed = false ∧ (s.winActive = true ∧ s.tableValid = true) ∧
      (s.w.instStart.toNat ≤ s.a0 ∧ s.a0 ≤ s.a1 ∧ s.a1 ≤ readerLimit s) ∧
      t = { s with
        rdPos := s.arg.r0, rdEnd := s.arg.r1, pendingOp := none, pushbackInst := none, lastInst := none, readerActive := true } := by
  simp [rdStartBody, bind_eq_ok, eq_comm (a := t), and_assoc]

theorem rdExtendBody_ok : rdExtendBody s = .ok t ↔
    s.sessionFailed = false ∧ s.readerActive = true ∧ (s.rdEnd.toNat ≤ s.a0 ∧ s.a0 ≤ readerLimit s) ∧
      t = { s with rdEnd := s.arg.r0 } := by
  simp [rdExtendBody, bind_eq_ok, eq_comm (a := t), and_assoc]

theorem rdSeekBody_ok : rdSeekBody s = .ok t ↔
    s.sessionFailed = false ∧ s.readerActive = true ∧ (s.rdPos.toNat ≤ s.a0 ∧ s.a0 ≤ s.rdEnd.toNat) ∧
      t = { s with rdPos := s.arg.r0 } := by
  simp [rdSeekBody, bind_eq_ok, eq_comm (a := t), and_assoc]

theorem rdUngetBody_ok : rdUngetBody s = .ok t ↔
    s.sessionFailed = false ∧ (s.readerActive = true ∧ s.lastInst ≠ none ∧ s.pushbackInst = none) ∧
      t = { s with pushbackInst := s.lastInst, lastInst := none } := by
  simp [rdUngetBody, bind_eq_ok, eq_comm (a := t), and_assoc]

/-- What WR_ADD, WR_RUN and WR_COPY leave when they end OK (R700 to R702). -/
theorem addInstruction_ok {typ : Byte} {sz mode : Nat} {p : Payload} (h : addInstruction s typ sz mode p = .ok t) :
    s.wrTargetLen.toNat + sz ≤ maxField ∧ ∃ e, emit s typ sz mode = .ok e ∧
      t = { { s with insts := e.insts, wrLast := e.last }.appendPayload p with
        wrInstCount := s.wrInstCount + 1, wrTargetLen := w64 (s.wrTargetLen.toNat + sz) } ∧
      t.regionBytes ≤ s.cfg.wrCapacity := by
  simp only [addInstruction, bind_eq_ok, check_eq_ok, pure_eq_ok, Except.ok.injEq] at h
  obtain ⟨_, h1, e, he, _, h2, rfl⟩ := h
  exact ⟨h1, e, he, rfl, h2⟩

/-- `appendPayload` writes the three regions only. -/
theorem appendPayload_eq (p : Payload) :
    s.appendPayload p = { s with
      data := (s.appendPayload p).data, insts := (s.appendPayload p).insts, addrs := (s.appendPayload p).addrs } := by
  cases p <;> simp only [State.appendPayload] <;> split <;> rfl

/-- A writer command changes the six writer registers and memories only. -/
theorem addInstruction_frame {typ : Byte} {sz mode : Nat} {p : Payload} (h : addInstruction s typ sz mode p = .ok t) :
    t = { s with
      data := t.data, insts := t.insts, addrs := t.addrs, wrLast := t.wrLast, wrInstCount := t.wrInstCount,
      wrTargetLen := t.wrTargetLen } := by
  obtain ⟨_, e, _, rfl, _⟩ := addInstruction_ok h
  cases p <;> simp only [State.appendPayload] <;> split <;> rfl

theorem wrAddBody_ok (h : wrAddBody s = .ok t) :
    (s.encOpen = true ∧ s.tableValid = true) ∧ s.a0 + s.a1 ≤ s.inLen ∧
      addInstruction s typAdd s.a1 0 (.toData ((s.inp.drop s.a0).take s.a1)) = .ok t := by
  simp only [wrAddBody, bind_eq_ok, writerGate_eq_ok, check_eq_ok] at h
  obtain ⟨_, h1, _, h2, h3⟩ := h
  exact ⟨h1, h2, h3⟩

theorem wrRunBody_ok (h : wrRunBody s = .ok t) :
    (s.encOpen = true ∧ s.tableValid = true) ∧ s.a0 ≤ 255 ∧ s.a1 ≤ maxField ∧
      addInstruction s typRun s.a1 0 (.toData [BitVec.ofNat 8 s.a0]) = .ok t := by
  simp only [wrRunBody, bind_eq_ok, writerGate_eq_ok, check_eq_ok] at h
  obtain ⟨_, h1, _, h2, _, h3, h4⟩ := h
  exact ⟨h1, h2, h3, h4⟩

theorem wrCopyBody_ok (h : wrCopyBody s = .ok t) :
    (s.encOpen = true ∧ s.tableValid = true) ∧ s.a1 ≤ s.maxMode ∧ s.a0 ≤ maxField ∧
      s.a2 ≤ (if isSameMode s s.a1 then 255 else maxField) ∧
      addInstruction s typCopy s.a0 s.a1 (.toAddrs (addressBytes s s.a1 s.a2)) = .ok t := by
  simp only [wrCopyBody, bind_eq_ok, writerGate_eq_ok, check_eq_ok] at h
  obtain ⟨_, h1, _, h2, _, h3, _, h4, h5⟩ := h
  exact ⟨h1, h2, h3, h4, h5⟩

theorem wrOutputBody_ok (h : wrOutputBody s = .ok t) :
    s.encOpen = true ∧ s.a0 < 3 ∧ (s.a0 ≠ 0 → s.a1 ≤ maxField ∧ s.a2 ≤ maxField ∧ s.a1 + s.a2 ≤ maxField) ∧
      (s.wrChecksum = true → s.a3 ≤ varint32Max) ∧
      ((s.wrInstCount = 0 ∧ t = s.setRes0 0) ∨
        (s.wrInstCount ≠ 0 ∧ (windowBody s s.a3).length ≤ maxField ∧
          t = ((s.outAppend (windowBytes s s.a0 s.a1 s.a2 s.a3)).clearWindow).setRes0
            (windowBytes s s.a0 s.a1 s.a2 s.a3).length)) := by
  simp only [wrOutputBody, bind_eq_ok, check_eq_ok] at h
  obtain ⟨_, h1, _, h2, _, h3, _, h4, h5⟩ := h
  refine ⟨h1, h2, h3, h4, ?_⟩
  split at h5
  · next h6 => exact .inl ⟨h6, (Except.ok.inj h5).symm⟩
  · next h6 =>
    simp only [bind_eq_ok, check_eq_ok, pure_eq_ok, Except.ok.injEq] at h5
    obtain ⟨_, h7, rfl⟩ := h5
    exact .inr ⟨h6, h7, rfl⟩

theorem fhWriteBody_ok (h : fhWriteBody s = .ok t) :
    s.encOpen = false ∧ s.a0 ≤ 1 ∧ (s.a0 = 1 → s.tableValid = true) ∧ (s.a0 = 1 → s.a1 ≤ maxField - 2) ∧
      t = { s.outAppend (fileHeaderBytes s (s.a0 == 1) s.a1) with encOpen := true }.setRes0
        (fileHeaderBytes s (s.a0 == 1) s.a1).length := by
  simp only [fhWriteBody, bind_eq_ok, check_eq_ok, pure_eq_ok, Except.ok.injEq] at h
  obtain ⟨_, h1, _, h2, _, h3, _, h4, rfl⟩ := h
  exact ⟨h1, h2, h3, h4, rfl⟩

theorem fhParseBody_ok (h : fhParseBody s = .ok t) :
    s.sessionFailed = false ∧ s.decOpen = false ∧ s.a0 ≤ s.inLen ∧ ∃ hd, parseFileHeader s s.a0 = .ok hd ∧
      t = { s with decOpen := true, extAllowed := hd.extended }.setRes hd.next hd.custom.toNat hd.tableLen hd.caches := by
  simp only [fhParseBody, bind_eq_ok, sessionGate_eq_ok, check_eq_ok, pure_eq_ok, Except.ok.injEq] at h
  obtain ⟨_, h1, _, h2, _, h3, hd, h4, rfl⟩ := h
  exact ⟨h1, h2, h3, hd, h4, rfl⟩

theorem whParseBody_ok (h : whParseBody s = .ok t) :
    s.sessionFailed = false ∧ (s.decOpen = true ∧ s.winActive = false) ∧ s.a0 ≤ s.inLen ∧
      ∃ w, parseWindowHeader s s.a0 = .ok w ∧
        t = { s with w := w, winActive := true }.setRes01 w.dataStart.toNat w.windowEnd.toNat := by
  simp only [whParseBody, bind_eq_ok, sessionGate_eq_ok, check_eq_ok, pure_eq_ok, Except.ok.injEq] at h
  obtain ⟨_, h1, _, h2, _, h3, w, h4, rfl⟩ := h
  exact ⟨h1, h2, h3, w, h4, rfl⟩

theorem winEndBody_ok (h : winEndBody s = .ok t) :
    s.sessionFailed = false ∧ s.winActive = true ∧ (s.readerActive = true ∨ s.w.instLen = 0) ∧ s.w.windowEnd.toNat ≤ s.inLen ∧
      (s.readerActive = true → consumedExactly s) ∧ s.arg.r0 = s.w.targetSize ∧
      t = { s with
        decTargetTotal := w64 (s.decTargetTotal.toNat + s.w.targetSize.toNat)
        winActive := false }.closeReader.setRes0 s.w.windowEnd.toNat := by
  simp only [winEndBody, bind_eq_ok, sessionGate_eq_ok, check_eq_ok, pure_eq_ok, Except.ok.injEq] at h
  obtain ⟨_, h1, _, h2, _, h3, _, h4, _, h5, _, h6, rfl⟩ := h
  exact ⟨h1, h2, h3, h4, h5, h6, rfl⟩

theorem regReadBody_ok (h : regReadBody s = .ok t) : ∃ r, Reg.ofNumber s.a0 = some r ∧ t = s.setRes0 (s.regValue r) := by
  unfold regReadBody at h
  split at h
  · simp at h
  · next r hr => exact ⟨r, hr, (Except.ok.inj h).symm⟩

/-- The four writable registers and their freezes (R107, R902). -/
theorem regWriteBody_ok (h : regWriteBody s = .ok t) :
    (∃ new : BitVec 3, t = { s with ctrl := new } ∧ (new.getLsbD 2 ≠ s.ctrl.getLsbD 2 → s.decOpen = false) ∧
      (new.getLsbD 0 ≠ s.ctrl.getLsbD 0 ∨ new.getLsbD 1 ≠ s.ctrl.getLsbD 1 → s.encOpen = false ∧ s.wrInstCount = 0)) ∨
    (∃ v : Word, v.toNat ≤ maxField ∧
      ((t = { s with dictSize := v } ∧ s.decOpen = false ∧ s.encOpen = false) ∨
        (t = { s with maxWindowSize := v } ∧ (v ≠ s.maxWindowSize → s.decOpen = false)) ∨
        (t = { s with maxFileSize := v } ∧ (v ≠ s.maxFileSize → s.decOpen = false)))) := by
  unfold regWriteBody at h
  split at h
  · simp only [writeCtrl, bind_eq_ok, check_eq_ok, pure_eq_ok, Except.ok.injEq] at h
    obtain ⟨_, h1, _, h2, rfl⟩ := h
    exact .inl ⟨_, rfl, h1, h2⟩
  · simp only [writeDictSize, bind_eq_ok, check_eq_ok, pure_eq_ok, Except.ok.injEq] at h
    obtain ⟨_, h1, _, h2, rfl⟩ := h
    exact .inr ⟨_, h2, .inl ⟨rfl, h1⟩⟩
  · simp only [checkLimitWrite, bind_eq_ok, check_eq_ok, pure_eq_ok, Except.ok.injEq] at h
    obtain ⟨_, ⟨_, h1, h2⟩, rfl⟩ := h
    exact .inr ⟨_, h2, .inr (.inl ⟨rfl, h1⟩)⟩
  · simp only [checkLimitWrite, bind_eq_ok, check_eq_ok, pure_eq_ok, Except.ok.injEq] at h
    obtain ⟨_, ⟨_, h1, h2⟩, rfl⟩ := h
    exact .inr ⟨_, h2, .inr (.inr ⟨rfl, h1⟩)⟩
  · simp at h

theorem inAppendBody_ok : inAppendBody s = .ok t ↔
    s.inLen < s.cfg.inSize ∧ t = (s.inAppend (BitVec.ofNat 8 (narrow s.a0 8))).setRes0 (s.inLen + 1) := by
  simp [inAppendBody, bind_eq_ok, eq_comm (a := t)]

/-! How a body can fail. -/

/-- Every failure of a computation has the property. -/
def Fails {α : Type} (P : Failure → Prop) (x : Except Failure α) : Prop := ∀ f, x = .error f → P f

section fails

variable {α β : Type} {P : Failure → Prop}

theorem fails_ok (a : α) : Fails P (.ok a) := fun _ h => by cases h

theorem fails_pure (a : α) : Fails P (pure a : Except Failure α) := fails_ok a

theorem fails_error {f : Failure} (h : P f) : Fails P (.error f : Except Failure α) := fun _ hf => by cases hf; exact h

theorem fails_bind {x : Except Failure α} {g : α → Except Failure β} (hx : Fails P x) (hg : ∀ a, x = .ok a → Fails P (g a)) :
    Fails P (x >>= g) := fun f h => by
  rcases (bind_eq_error x g f).1 h with h | ⟨a, ha, h⟩
  · exact hx f h
  · exact hg a ha f h

theorem fails_check {p : Prop} [Decidable p] {f : Failure} (h : ¬p → P f) : Fails P (check p f) := fun g hg => by
  obtain ⟨h1, rfl⟩ := (check_eq_error f g).1 hg
  exact h h1

end fails

/-- The failures of the commands that SESSION_FAILED does not refuse: STATUS alone, and no SESSION_FAILED (R1002, R1004). -/
abbrev ordinary (f : Failure) : Prop := ∃ st, f = .plain st ∧ st ≠ .ok ∧ st ≠ .sessionFailed

/-- The failures of the decode-side commands that set no SESSION_FAILED, but for an exhausted RD_GET: the refusal, or STATUS alone. -/
abbrev refusing (s : State) (f : Failure) : Prop := (f = .plain .sessionFailed ∧ s.sessionFailed = true) ∨ ordinary f

/-- The failures of FH_PARSE, WH_PARSE, WIN_END and RD_GET that set no SESSION_FAILED (R1003). -/
abbrev recoverable (s : State) (f : Failure) : Prop :=
  (f = .plain .sessionFailed ∧ s.sessionFailed = true) ∨ f = .plain .stateError ∨ f = .plain .truncated ∨
    (f = .plain .outOfRange ∧ s.inLen < s.a0)

/-- The failures of a parser past its gates (R800): TRUNCATED, or a stream-content error. -/
abbrev parsing (f : Failure) : Prop :=
  f = .plain .truncated ∨ f = .stream .malformed ∨ f = .stream .outOfRange ∨ f = .stream .unsupported

theorem ordinary_plain {st : Status} (h : st ≠ .ok ∧ st ≠ .sessionFailed) : ordinary (.plain st) := ⟨st, rfl, h.1, h.2⟩

section fails

variable (s : State)

theorem ctMutable_fails : Fails ordinary (ctMutable s) := fails_check fun _ => ordinary_plain (by decide)

theorem writerGate_fails : Fails ordinary (writerGate s) :=
  fails_bind (fails_check fun _ => ordinary_plain (by decide)) fun _ _ => fails_check fun _ => ordinary_plain (by decide)

theorem needOpcode_fails (o : Option Byte) : Fails ordinary (needOpcode o) := by
  cases o
  · exact fails_error (ordinary_plain (by decide))
  · exact fails_ok _

theorem checkInstruction_fails (maxMode t m sz : Nat) : Fails ordinary (checkInstruction maxMode t m sz) :=
  fails_bind (fails_check fun _ => ordinary_plain (by decide)) fun _ _ =>
    fails_bind (fails_check fun _ => ordinary_plain (by decide)) fun _ _ => fails_check fun _ => ordinary_plain (by decide)

theorem emit_fails (typ : Byte) (sz mode : Nat) : Fails ordinary (emit s typ sz mode) := by
  simp only [emit]
  split
  · exact fails_pure _
  · exact fails_bind (needOpcode_fails _) fun _ _ => fails_pure _

theorem addInstruction_fails (typ : Byte) (sz mode : Nat) (p : Payload) : Fails ordinary (addInstruction s typ sz mode p) :=
  fails_bind (fails_check fun _ => ordinary_plain (by decide)) fun _ _ => fails_bind (emit_fails s typ sz mode) fun _ _ =>
    fails_bind (fails_check fun _ => ordinary_plain (by decide)) fun _ _ => fails_pure _

theorem vdecBody_fails (dec : List Byte → Nat → Nat → VarintOutcome) : Fails ordinary (vdecBody dec s) := by
  refine fails_bind (fails_check fun _ => ordinary_plain (by decide)) fun _ _ => ?_
  split
  · exact fails_error (ordinary_plain (by decide))
  · exact fails_error (ordinary_plain (by decide))
  · exact fails_pure _

theorem wrOutputBody_fails : Fails ordinary (wrOutputBody s) := by
  refine fails_bind (fails_check fun _ => ordinary_plain (by decide)) fun _ _ =>
    fails_bind (fails_check fun _ => ordinary_plain (by decide)) fun _ _ =>
    fails_bind (fails_check fun _ => ordinary_plain (by decide)) fun _ _ =>
    fails_bind (fails_check fun _ => ordinary_plain (by decide)) fun _ _ => ?_
  split
  · exact fails_pure _
  · exact fails_bind (fails_check fun _ => ordinary_plain (by decide)) fun _ _ => fails_pure _

theorem regWriteBody_fails : Fails ordinary (regWriteBody s) := by
  unfold regWriteBody
  split
  · exact fails_bind (fails_check fun _ => ordinary_plain (by decide)) fun _ _ =>
      fails_bind (fails_check fun _ => ordinary_plain (by decide)) fun _ _ => fails_pure _
  · exact fails_bind (fails_check fun _ => ordinary_plain (by decide)) fun _ _ =>
      fails_bind (fails_check fun _ => ordinary_plain (by decide)) fun _ _ => fails_pure _
  · exact fails_bind (fails_bind (fails_check fun _ => ordinary_plain (by decide)) fun _ _ =>
      fails_check fun _ => ordinary_plain (by decide)) fun _ _ => fails_pure _
  · exact fails_bind (fails_bind (fails_check fun _ => ordinary_plain (by decide)) fun _ _ =>
      fails_check fun _ => ordinary_plain (by decide)) fun _ _ => fails_pure _
  · exact fails_error (ordinary_plain (by decide))

theorem mapSecondBody_fails : Fails ordinary (mapSecondBody s) := by
  refine fails_bind (fails_check fun _ => ordinary_plain (by decide)) fun _ _ =>
    fails_bind (fails_check fun _ => ordinary_plain (by decide)) fun _ _ =>
    fails_bind (checkInstruction_fails _ _ _ _) fun _ _ => ?_
  split <;> exact fails_pure _

/-- A command that is not of the decode side never sets SESSION_FAILED and is never refused for it (R1003, R1004). -/
theorem bodyOf_ordinary {i : Instr} (hi : ¬isDecodeSide i) : Fails ordinary (bodyOf i s) := by
  revert hi
  refine instr_cases (P := fun i => ¬isDecodeSide i → Fails ordinary (bodyOf i s)) ?_ ?_ ?_ ?_ ?_ ?_ ?_ ?_ ?_ ?_ ?_ ?_ ?_ ?_ ?_ ?_ ?_
    ?_ ?_ ?_ ?_ ?_ ?_ ?_ ?_ ?_ ?_ ?_ ?_ ?_ ?_ i
  on_goal 31 => exact fun i op hop h => absurd (.inr (.inr (by simp [hop]))) h
  all_goals first | exact (fun h => absurd (by decide) h) | intro _
  · exact fails_ok _
  · exact fails_pure _
  · exact fails_bind (fails_check fun _ => ordinary_plain (by decide)) fun _ _ => fails_pure _
  · exact vdecBody_fails s _
  · exact vdecBody_fails s _
  · exact fails_bind (ctMutable_fails s) fun _ _ => fails_pure _
  · exact fails_bind (ctMutable_fails s) fun _ _ =>
      fails_bind (fails_check fun _ => ordinary_plain (by decide)) fun _ _ => fails_pure _
  · exact fails_bind (ctMutable_fails s) fun _ _ => fails_bind (fails_check fun _ => ordinary_plain (by decide)) fun _ _ =>
      fails_bind (fails_check fun _ => ordinary_plain (by decide)) fun _ _ => fails_pure _
  · exact fails_bind (fails_check fun _ => ordinary_plain (by decide)) fun _ _ =>
      fails_bind (fails_check fun _ => ordinary_plain (by decide)) fun _ _ => fails_pure _
  · exact fails_bind (fails_check fun _ => ordinary_plain (by decide)) fun _ _ => fails_pure _
  · exact fails_bind (fails_check fun _ => ordinary_plain (by decide)) fun _ _ =>
      fails_bind (checkInstruction_fails _ _ _ _) fun _ _ => fails_bind (needOpcode_fails _) fun _ _ => fails_pure _
  · exact mapSecondBody_fails s
  · exact fails_bind (writerGate_fails s) fun _ _ =>
      fails_bind (fails_check fun _ => ordinary_plain (by decide)) fun _ _ => addInstruction_fails s _ _ _ _
  · exact fails_bind (writerGate_fails s) fun _ _ =>
      fails_bind (fails_check fun _ => ordinary_plain (by decide)) fun _ _ =>
      fails_bind (fails_check fun _ => ordinary_plain (by decide)) fun _ _ => addInstruction_fails s _ _ _ _
  · exact fails_bind (writerGate_fails s) fun _ _ =>
      fails_bind (fails_check fun _ => ordinary_plain (by decide)) fun _ _ =>
      fails_bind (fails_check fun _ => ordinary_plain (by decide)) fun _ _ =>
      fails_bind (fails_check fun _ => ordinary_plain (by decide)) fun _ _ => addInstruction_fails s _ _ _ _
  · exact wrOutputBody_fails s
  · exact fails_ok _
  · exact fails_bind (fails_check fun _ => ordinary_plain (by decide)) fun _ _ =>
      fails_bind (fails_check fun _ => ordinary_plain (by decide)) fun _ _ =>
      fails_bind (fails_check fun _ => ordinary_plain (by decide)) fun _ _ =>
      fails_bind (fails_check fun _ => ordinary_plain (by decide)) fun _ _ => fails_pure _
  · simp only [bodyOf, regReadBody]
    split
    · exact fails_error (ordinary_plain (by decide))
    · exact fails_ok _
  · exact regWriteBody_fails s
  · exact fails_bind (fails_check fun _ => ordinary_plain (by decide)) fun _ _ => fails_pure _
  · exact fails_ok _

theorem sessionGate_fails {P : Failure → Prop} (h : s.sessionFailed = true → P (.plain .sessionFailed)) :
    Fails P (sessionGate s) := fails_check fun hn => h (by simpa using hn)

/-- The decode-side commands whose failures are never stream-content errors. -/
theorem bodyOf_refusing {i : Instr} (hi : i = .rdStart ∨ i = .rdExtend ∨ i = .rdSeek ∨ i = .rdUnget) :
    Fails (refusing s) (bodyOf i s) := by
  have gate : Fails (refusing s) (sessionGate s) := sessionGate_fails s fun h => .inl ⟨rfl, h⟩
  have plain : ∀ {p : Prop} [Decidable p] {st : Status}, st ≠ .ok ∧ st ≠ .sessionFailed →
      Fails (refusing s) (check p (.plain st)) := fun h => fails_check fun _ => .inr (ordinary_plain h)
  rcases hi with rfl | rfl | rfl | rfl
  · exact fails_bind gate fun _ _ => fails_bind (plain (by decide)) fun _ _ =>
      fails_bind (plain (by decide)) fun _ _ => fails_pure _
  · exact fails_bind gate fun _ _ => fails_bind (plain (by decide)) fun _ _ =>
      fails_bind (plain (by decide)) fun _ _ => fails_pure _
  · exact fails_bind gate fun _ _ => fails_bind (plain (by decide)) fun _ _ =>
      fails_bind (plain (by decide)) fun _ _ => fails_pure _
  · exact fails_bind gate fun _ _ => fails_bind (plain (by decide)) fun _ _ => fails_pure _

theorem need_fails (p : Nat) : Fails parsing (need s p) := fun f h => .inl ((need_eq_error s p f).1 h).2

theorem ck32_fails (p : Nat) : Fails parsing (ck32 s p) := by
  unfold ck32
  split
  · exact fails_error (.inl rfl)
  · exact fails_error (.inr (.inl rfl))
  · exact fails_ok _

theorem field32_fails (p : Nat) : Fails parsing (field32 s p) :=
  fails_bind (ck32_fails s p) fun _ _ => fails_bind (fails_check fun _ => .inr (.inl rfl)) fun _ _ => fails_pure _

theorem expectByte_fails (p : Nat) (e : Byte) : Fails parsing (expectByte s p e) :=
  fails_bind (need_fails s p) fun _ _ => fails_check fun _ => .inr (.inl rfl)

theorem parseFileHeader_fails (p : Nat) : Fails parsing (parseFileHeader s p) := by
  refine fails_bind (expectByte_fails s _ _) fun _ _ => fails_bind (expectByte_fails s _ _) fun _ _ =>
    fails_bind (expectByte_fails s _ _) fun _ _ => fails_bind (need_fails s _) fun _ _ =>
    fails_bind (fails_check fun _ => .inr (.inr (.inr rfl))) fun _ _ => fails_bind (need_fails s _) fun _ _ =>
    fails_bind (fails_check fun _ => .inr (.inl rfl)) fun _ _ =>
    fails_bind (fails_check fun _ => .inr (.inr (.inr rfl))) fun _ _ => ?_
  split
  · exact fails_bind (fails_bind (field32_fails s _) fun _ _ => fails_bind (fails_check fun _ => .inr (.inl rfl)) fun _ _ =>
      fails_bind (need_fails s _) fun _ _ => fails_bind (need_fails s _) fun _ _ =>
      fails_bind (fails_check fun _ => .inr (.inl rfl)) fun _ _ => fails_pure _) fun _ _ => fails_pure _
  · exact fails_pure _

theorem parseWindowHeader_fails (p : Nat) : Fails parsing (parseWindowHeader s p) := by
  have indicator : ∀ wi, Fails parsing (checkIndicator s wi) := fun _ =>
    fails_bind (fails_check fun _ => .inr (.inl rfl)) fun _ _ => fails_bind (fails_check fun _ => .inr (.inl rfl)) fun _ _ =>
    fails_bind (fails_check fun _ => .inr (.inl rfl)) fun _ _ => fails_check fun _ => .inr (.inr (.inr rfl))
  have source : ∀ wi p, Fails parsing (sourceSegment s wi p) := fun wi p => by
    unfold sourceSegment
    split
    · exact fails_bind (field32_fails s _) fun _ _ => fails_bind (field32_fails s _) fun _ _ =>
        fails_bind (fails_check fun _ => .inr (.inl rfl)) fun _ _ =>
        fails_bind (fails_check fun _ => .inr (.inr (.inl rfl))) fun _ _ => fails_pure _
    · exact fails_pure _
  have target : ∀ tws, Fails parsing (checkTargetSize s tws) := fun _ =>
    fails_bind (fails_check fun _ => .inr (.inr (.inl rfl))) fun _ _ => fails_check fun _ => .inr (.inr (.inl rfl))
  have delta : ∀ di, Fails parsing (checkDeltaIndicator di) := fun _ =>
    fails_bind (fails_check fun _ => .inr (.inl rfl)) fun _ _ => fails_check fun _ => .inr (.inr (.inr rfl))
  have sum : ∀ wi p, Fails parsing (checksumField s wi p) := fun wi p => by
    unfold checksumField
    split
    · exact ck32_fails s p
    · exact fails_ok _
  exact fails_bind (need_fails s _) fun _ _ => fails_bind (indicator _) fun _ _ => fails_bind (source _ _) fun _ _ =>
    fails_bind (field32_fails s _) fun _ _ => fails_bind (field32_fails s _) fun _ _ => fails_bind (target _) fun _ _ =>
    fails_bind (need_fails s _) fun _ _ => fails_bind (delta _) fun _ _ => fails_bind (field32_fails s _) fun _ _ =>
    fails_bind (field32_fails s _) fun _ _ => fails_bind (field32_fails s _) fun _ _ => fails_bind (sum _ _) fun _ _ =>
    fails_bind (fails_check fun _ => .inr (.inl rfl)) fun _ _ => fails_pure _

/-- How FH_PARSE, WH_PARSE and WIN_END fail: without SESSION_FAILED, or with a stream-content error past the gates (R1003). -/
theorem bodyOf_parsers {i : Instr} (hi : i = .fhParse ∨ i = .whParse ∨ i = .winEnd) :
    Fails (fun f => recoverable s f ∨ (s.sessionFailed = false ∧ (f = .stream .malformed ∨
      (s.a0 ≤ s.inLen ∧ (f = .stream .outOfRange ∨ f = .stream .unsupported))))) (bodyOf i s) := by
  rcases hi with rfl | rfl | rfl
  · refine fails_bind (sessionGate_fails s fun h => .inl (.inl ⟨rfl, h⟩)) fun _ h1 =>
      fails_bind (fails_check fun _ => .inl (.inr (.inl rfl))) fun _ _ =>
      fails_bind (fails_check fun h => .inl (.inr (.inr (.inr ⟨rfl, Nat.lt_of_not_le h⟩)))) fun _ h2 =>
      fails_bind (fun f hf => ?_) fun _ _ => fails_pure _
    have h1 := (sessionGate_eq_ok s _).1 h1
    have h2 := (check_eq_ok _ _).1 h2
    rcases parseFileHeader_fails s _ f hf with rfl | rfl | rfl | rfl <;> simp [recoverable, h1, h2]
  · refine fails_bind (sessionGate_fails s fun h => .inl (.inl ⟨rfl, h⟩)) fun _ h1 =>
      fails_bind (fails_check fun _ => .inl (.inr (.inl rfl))) fun _ _ =>
      fails_bind (fails_check fun h => .inl (.inr (.inr (.inr ⟨rfl, Nat.lt_of_not_le h⟩)))) fun _ h2 =>
      fails_bind (fun f hf => ?_) fun _ _ => fails_pure _
    have h1 := (sessionGate_eq_ok s _).1 h1
    have h2 := (check_eq_ok _ _).1 h2
    rcases parseWindowHeader_fails s _ f hf with rfl | rfl | rfl | rfl <;> simp [recoverable, h1, h2]
  · refine fails_bind (sessionGate_fails s fun h => .inl (.inl ⟨rfl, h⟩)) fun _ h1 =>
      fails_bind (fails_check fun _ => .inl (.inr (.inl rfl))) fun _ _ =>
      fails_bind (fails_check fun _ => .inl (.inr (.inl rfl))) fun _ _ =>
      fails_bind (fails_check fun _ => .inl (.inr (.inr (.inl rfl)))) fun _ _ => ?_
    have h1 := (sessionGate_eq_ok s _).1 h1
    exact fails_bind (fails_check fun _ => .inr ⟨h1, .inl rfl⟩) fun _ _ =>
      fails_bind (fails_check fun _ => .inr ⟨h1, .inl rfl⟩) fun _ _ => fails_pure _

end fails

/-- The bytes an RD_GET scans, for RD_GET and for an opcode row: as many as are unread. -/
theorem bodyOf_readerGet (s : State) {i : Instr} (hi : isReaderGet i) : ∃ bytes, bodyOf i s = rdGetOn bytes s ∧
    bytes.length = s.unread.length ∧ (i = .rdGet → bytes = s.unread) := by
  rcases hi with rfl | hi
  · exact ⟨s.unread, rfl, rfl, fun _ => rfl⟩
  · obtain ⟨op, hop⟩ := Option.isSome_iff_exists.1 hi
    exact ⟨s.unreadFrom op, bodyOf_opcode hop s, unreadFrom_length s op, fun h => absurd h (opcode_ne hop rfl)⟩

/-- The inversion of every command that ends OK: what holds of the state each of them leaves, under its guards, holds of every
one. -/
theorem ok_cases {P : Instr → State → Prop}
    (nop : P .nop s)
    (venc32 : P .venc32 ((s.outAppend (venc (narrow s.a0 32))).setRes0 (venc (narrow s.a0 32)).length))
    (venc64 : s.a0 ≤ varint64Max → P .venc64 ((s.outAppend (venc s.a0)).setRes0 (venc s.a0).length))
    (vdec32 : ∀ v q, s.a0 ≤ s.a1 → s.a1 ≤ s.inLen → Machine.vdec32 s.inp s.a0 s.a1 = .ok v q → P .vdec32 (s.setRes01 v q))
    (vdec64 : ∀ v q, s.a0 ≤ s.a1 → s.a1 ≤ s.inLen → Machine.vdec64 s.inp s.a0 s.a1 = .ok v q → P .vdec64 (s.setRes01 v q))
    (ctLoadDefault : s.readerActive = false → s.wrInstCount = 0 → P .ctLoadDefault { s with
      ct := defaultCt, nearSize := w64 defaultNear, sameSize := w64 defaultSame, first := buildFirst defaultCt,
      second := buildSecond defaultCt (buildFirst defaultCt), tableValid := true })
    (ctSetCache : s.readerActive = false → s.wrInstCount = 0 → s.a0 + s.a1 ≤ cacheLimit →
      P .ctSetCache ({ s with nearSize := s.arg.r0, sameSize := s.arg.r1, tableValid := false }.setRes0 (1 + s.a0 + s.a1)))
    (ctWrite : s.readerActive = false → s.wrInstCount = 0 → s.a0 ≤ 5 → s.a1 ≤ 255 → s.a2 ≤ 255 →
      P .ctWrite { s with ct := ctSet s.ct s.a0 s.a1 (BitVec.ofNat 8 s.a2), tableValid := false })
    (ctRead : s.a0 ≤ 5 → s.a1 ≤ 255 → P .ctRead (s.setRes0 (ctByte s.ct s.a0 s.a1).toNat))
    (ctCommit : validate s.ct s.maxMode = true → P .ctCommit { s with
      first := buildFirst s.ct, second := buildSecond s.ct (buildFirst s.ct), tableValid := true })
    (mapFirst : ∀ v0 v1, s.tableValid = true → P .mapFirst (s.setRes01 v0 v1))
    (mapSecond : ∀ v0 v1 v2, s.tableValid = true → P .mapSecond (s.setRes012 v0 v1 v2))
    (rdStart : s.sessionFailed = false → s.winActive = true → s.tableValid = true → s.w.instStart.toNat ≤ s.a0 → s.a0 ≤ s.a1 →
      s.a1 ≤ readerLimit s → P .rdStart { s with
        rdPos := s.arg.r0, rdEnd := s.arg.r1, pendingOp := none, pushbackInst := none, lastInst := none, readerActive := true })
    (rdExtend : s.sessionFailed = false → s.readerActive = true → s.rdEnd.toNat ≤ s.a0 → s.a0 ≤ readerLimit s →
      P .rdExtend { s with rdEnd := s.arg.r0 })
    (rdSeek : s.sessionFailed = false → s.readerActive = true → s.rdPos.toNat ≤ s.a0 → s.a0 ≤ s.rdEnd.toNat →
      P .rdSeek { s with rdPos := s.arg.r0 })
    (getPushback : ∀ i r, isReaderGet i → s.sessionFailed = false → s.readerActive = true → s.tableValid = true →
      s.pushbackInst = some r → P i ({ s with pushbackInst := none, lastInst := some r }.returnRecord r s.rdPos.toNat))
    (getHalf : ∀ i bytes h pend p sz q, isReaderGet i → bytes.length = s.unread.length → s.sessionFailed = false →
      s.readerActive = true → s.tableValid = true → s.pushbackInst = none →
      nextHalf s.ct s.pendingOp bytes s.rdPos.toNat = .found h pend p → halfSize s h p = .ok (sz, q) →
      P i ({ s with
        rdPos := w64 q, pendingOp := pend, lastInst := some { typ := h.typ, size := w64 sz, mode := h.mode } }.returnRecord
          { typ := h.typ, size := w64 sz, mode := h.mode } q))
    (rdUnget : s.sessionFailed = false → s.readerActive = true → s.lastInst ≠ none → s.pushbackInst = none →
      P .rdUnget { s with pushbackInst := s.lastInst, lastInst := none })
    (wrAdd : ∀ u, s.encOpen = true → s.tableValid = true → s.a0 + s.a1 ≤ s.inLen →
      addInstruction s typAdd s.a1 0 (.toData ((s.inp.drop s.a0).take s.a1)) = .ok u → P .wrAdd u)
    (wrRun : ∀ u, s.encOpen = true → s.tableValid = true → s.a0 ≤ 255 → s.a1 ≤ maxField →
      addInstruction s typRun s.a1 0 (.toData [BitVec.ofNat 8 s.a0]) = .ok u → P .wrRun u)
    (wrCopy : ∀ u, s.encOpen = true → s.tableValid = true → s.a1 ≤ s.maxMode → s.a0 ≤ maxField →
      s.a2 ≤ (if isSameMode s s.a1 then 255 else maxField) →
      addInstruction s typCopy s.a0 s.a1 (.toAddrs (addressBytes s s.a1 s.a2)) = .ok u → P .wrCopy u)
    (wrOutputNone : s.encOpen = true → s.wrInstCount = 0 → P .wrOutput (s.setRes0 0))
    (wrOutput : s.encOpen = true → s.a0 < 3 → (s.a0 ≠ 0 → s.a1 ≤ maxField ∧ s.a2 ≤ maxField ∧ s.a1 + s.a2 ≤ maxField) →
      (s.wrChecksum = true → s.a3 ≤ varint32Max) → s.wrInstCount ≠ 0 → (windowBody s s.a3).length ≤ maxField →
      P .wrOutput (((s.outAppend (windowBytes s s.a0 s.a1 s.a2 s.a3)).clearWindow).setRes0
        (windowBytes s s.a0 s.a1 s.a2 s.a3).length))
    (wrDiscard : P .wrDiscard s.clearWindow)
    (fhWrite : s.encOpen = false → s.a0 ≤ 1 → (s.a0 = 1 → s.tableValid = true) → (s.a0 = 1 → s.a1 ≤ maxField - 2) →
      P .fhWrite ({ s.outAppend (fileHeaderBytes s (s.a0 == 1) s.a1) with encOpen := true }.setRes0
        (fileHeaderBytes s (s.a0 == 1) s.a1).length))
    (fhParse : ∀ hd, s.sessionFailed = false → s.decOpen = false → parseFileHeader s s.a0 = .ok hd →
      P .fhParse ({ s with decOpen := true, extAllowed := hd.extended }.setRes hd.next hd.custom.toNat hd.tableLen hd.caches))
    (whParse : ∀ w, s.sessionFailed = false → s.decOpen = true → s.winActive = false → parseWindowHeader s s.a0 = .ok w →
      P .whParse ({ s with w := w, winActive := true }.setRes01 w.dataStart.toNat w.windowEnd.toNat))
    (winEnd : s.sessionFailed = false → s.winActive = true → (s.readerActive = true ∨ s.w.instLen = 0) →
      s.w.windowEnd.toNat ≤ s.inLen → (s.readerActive = true → consumedExactly s) → s.arg.r0 = s.w.targetSize →
      P .winEnd ({ s with
        decTargetTotal := w64 (s.decTargetTotal.toNat + s.w.targetSize.toNat)
        winActive := false }.closeReader.setRes0 s.w.windowEnd.toNat))
    (regRead : ∀ v, P .regRead (s.setRes0 v))
    (regWriteCtrl : ∀ new : BitVec 3, (new.getLsbD 2 ≠ s.ctrl.getLsbD 2 → s.decOpen = false) →
      (new.getLsbD 0 ≠ s.ctrl.getLsbD 0 ∨ new.getLsbD 1 ≠ s.ctrl.getLsbD 1 → s.encOpen = false ∧ s.wrInstCount = 0) →
      P .regWrite { s with ctrl := new })
    (regWriteDict : ∀ v : Word, v.toNat ≤ maxField → s.decOpen = false → s.encOpen = false → P .regWrite { s with dictSize := v })
    (regWriteWindow : ∀ v : Word, v.toNat ≤ maxField → (v ≠ s.maxWindowSize → s.decOpen = false) →
      P .regWrite { s with maxWindowSize := v })
    (regWriteFile : ∀ v : Word, v.toNat ≤ maxField → (v ≠ s.maxFileSize → s.decOpen = false) →
      P .regWrite { s with maxFileSize := v })
    (inAppend : s.inLen < s.cfg.inSize →
      P .inAppend ((s.inAppend (BitVec.ofNat 8 (narrow s.a0 8))).setRes0 (s.inLen + 1)))
    (reset : P .reset s.afterReset) : ∀ {i u}, bodyOf i s = .ok u → P i u := by
  intro i u
  have get : ∀ i, isReaderGet i → bodyOf i s = .ok u → P i u := by
    intro i hi h
    obtain ⟨bytes, hb, hl, _⟩ := bodyOf_readerGet s hi
    rw [hb] at h
    obtain ⟨h1, h2, h3, ⟨r, h4, rfl⟩ | ⟨h4, hf, pend, p, sz, q, h5, h6, rfl⟩⟩ := rdGetOn_ok h
    · exact getPushback i r hi h1 h2 h3 h4
    · exact getHalf i bytes hf pend p sz q hi hl h1 h2 h3 h4 h5 h6
  refine instr_cases (P := fun i => bodyOf i s = .ok u → P i u) ?_ ?_ ?_ ?_ ?_ ?_ ?_ ?_ ?_ ?_ ?_ ?_ ?_ ?_ ?_ ?_ ?_
    ?_ ?_ ?_ ?_ ?_ ?_ ?_ ?_ ?_ ?_ ?_ ?_ ?_ ?_ i
  on_goal 31 => exact fun i op hop => get i (.inr (by simp [hop]))
  all_goals intro h
  all_goals simp only [bodyOf] at h
  · cases h; exact nop
  · rw [venc32Body_ok] at h; exact h ▸ venc32
  · rw [venc64Body_ok] at h; exact h.2 ▸ venc64 h.1
  · rw [vdecBody_ok] at h; obtain ⟨h1, v, q, h2, rfl⟩ := h; exact vdec32 v q h1.1 h1.2 h2
  · rw [vdecBody_ok] at h; obtain ⟨h1, v, q, h2, rfl⟩ := h; exact vdec64 v q h1.1 h1.2 h2
  · rw [ctLoadDefaultBody_ok] at h; exact h.2 ▸ ctLoadDefault h.1.1 h.1.2
  · rw [ctSetCacheBody_ok] at h; exact h.2.2 ▸ ctSetCache h.1.1 h.1.2 h.2.1.2.2
  · rw [ctWriteBody_ok] at h; exact h.2.2.2 ▸ ctWrite h.1.1 h.1.2 h.2.1 h.2.2.1.1 h.2.2.1.2
  · rw [ctReadBody_ok] at h; exact h.2.2 ▸ ctRead h.1 h.2.1
  · rw [ctCommitBody_ok] at h; exact h.2 ▸ ctCommit h.1
  · obtain ⟨h1, _, _, rfl⟩ := mapFirstBody_ok h; exact mapFirst _ _ h1
  · obtain ⟨h1, _, _, _, rfl⟩ := mapSecondBody_ok h; exact mapSecond _ _ _ h1
  · rw [rdStartBody_ok] at h; obtain ⟨h1, h2, h3, rfl⟩ := h; exact rdStart h1 h2.1 h2.2 h3.1 h3.2.1 h3.2.2
  · rw [rdExtendBody_ok] at h; obtain ⟨h1, h2, h3, rfl⟩ := h; exact rdExtend h1 h2 h3.1 h3.2
  · rw [rdSeekBody_ok] at h; obtain ⟨h1, h2, h3, rfl⟩ := h; exact rdSeek h1 h2 h3.1 h3.2
  · exact get .rdGet (.inl rfl) h
  · rw [rdUngetBody_ok] at h; obtain ⟨h1, h2, rfl⟩ := h; exact rdUnget h1 h2.1 h2.2.1 h2.2.2
  · obtain ⟨h1, h2, h⟩ := wrAddBody_ok h; exact wrAdd u h1.1 h1.2 h2 h
  · obtain ⟨h1, h2, h3, h⟩ := wrRunBody_ok h; exact wrRun u h1.1 h1.2 h2 h3 h
  · obtain ⟨h1, h2, h3, h4, h⟩ := wrCopyBody_ok h; exact wrCopy u h1.1 h1.2 h2 h3 h4 h
  · obtain ⟨h1, h2, h3, h4, ⟨h5, rfl⟩ | ⟨h5, h6, rfl⟩⟩ := wrOutputBody_ok h
    · exact wrOutputNone h1 h5
    · exact wrOutput h1 h2 h3 h4 h5 h6
  · cases h; exact wrDiscard
  · obtain ⟨h1, h2, h3, h4, rfl⟩ := fhWriteBody_ok h; exact fhWrite h1 h2 h3 h4
  · obtain ⟨h1, h2, _, hd, h3, rfl⟩ := fhParseBody_ok h; exact fhParse hd h1 h2 h3
  · obtain ⟨h1, h2, _, w, h3, rfl⟩ := whParseBody_ok h; exact whParse w h1 h2.1 h2.2 h3
  · obtain ⟨h1, h2, h3, h4, h5, h6, rfl⟩ := winEndBody_ok h; exact winEnd h1 h2 h3 h4 h5 h6
  · obtain ⟨r, _, rfl⟩ := regReadBody_ok h; exact regRead _
  · obtain ⟨n, rfl, h1, h2⟩ | ⟨v, hv, ⟨rfl, h1, h2⟩ | ⟨rfl, h1⟩ | ⟨rfl, h1⟩⟩ := regWriteBody_ok h
    · exact regWriteCtrl n h1 h2
    · exact regWriteDict v hv h1 h2
    · exact regWriteWindow v hv h1
    · exact regWriteFile v hv h1
  · rw [inAppendBody_ok] at h; exact h.2 ▸ inAppend h.1
  · cases h; exact reset

/-- Everything an instruction can do: end OK with its body's writes, or fail with none of them. -/
theorem exec_cases {i : Instr} (h : exec i s = .next t) :
    (∃ u, bodyOf i s = .ok u ∧ t = { u with status := .ok }) ∨ (∃ f, bodyOf i s = .error f ∧ t = fail f s) := by
  rw [exec_next] at h
  rcases finish_cases s (bodyOf i s) with ⟨u, h1, h2⟩ | ⟨f, h1, h2⟩
  · exact .inl ⟨u, h1, (h2.symm.trans h).symm⟩
  · exact .inr ⟨f, h1, (h2.symm.trans h).symm⟩

end Sys2Proof.Machine
end

