-- ==== Sys2Proof/Laws/Memory.lean ====
section
/-! SUPPORT. The laws of a byte memory: a read after a write, and the canonical form is kept by every write. -/

namespace Sys2Proof.Machine

variable (bg : Nat → Byte)

theorem lookup_erase (m : List Host.Cell) (a b : Nat) :
    Memory.lookup (Memory.erase m a) b = if b = a then none else Memory.lookup m b := by
  induction m with
  | nil => simp [Memory.erase, Memory.lookup]
  | cons c rest ih =>
    obtain ⟨k, v⟩ := c
    simp only [Memory.erase] at ih
    by_cases hk : k = a
    · subst hk
      simp only [Memory.erase, List.filter_cons, bne_self_eq_false, Bool.false_eq_true, if_false, ih, Memory.lookup]
      grind
    · simp only [Memory.erase, List.filter_cons, bne_iff_ne, ne_eq, hk, not_false_eq_true, if_true, Memory.lookup, ih]
      grind

theorem lookup_put (m : List Host.Cell) (a b : Nat) (v : Byte) :
    Memory.lookup (Memory.put m a v) b = if b = a then some v else Memory.lookup m b := by
  induction m with
  | nil => simp [Memory.put, Memory.lookup, eq_comm]
  | cons c rest ih =>
    obtain ⟨k, u⟩ := c
    simp only [Memory.put]
    split
    · simp only [Memory.lookup]; grind
    · split
      · simp only [Memory.lookup]; grind
      · simp only [Memory.lookup, ih]; grind

/-- A read after a write to the same address gives the byte written; any other address reads as before. -/
theorem read_write (m : List Host.Cell) (a b : Nat) (v : Byte) :
    Memory.read bg (Memory.write bg m a v) b = if b = a then v else Memory.read bg m b := by
  unfold Memory.read Memory.write
  split
  · rw [lookup_erase]; split <;> simp_all
  · rw [lookup_put]; split <;> simp_all

theorem rising_mono {lo lo' : Nat} (h : lo ≤ lo') (m : List Host.Cell) (hm : Memory.rising lo' m = true) :
    Memory.rising lo m = true := by
  cases m with
  | nil => rfl
  | cons c rest =>
    simp only [Memory.rising, Bool.and_eq_true, decide_eq_true_eq] at hm ⊢
    exact ⟨by omega, hm.2⟩

theorem rising_erase (m : List Host.Cell) (a lo : Nat) (h : Memory.rising lo m = true) :
    Memory.rising lo (Memory.erase m a) = true := by
  induction m generalizing lo with
  | nil => rfl
  | cons c rest ih =>
    obtain ⟨k, v⟩ := c
    simp only [Memory.rising, Bool.and_eq_true, decide_eq_true_eq] at h
    simp only [Memory.erase, List.filter_cons]
    split
    · simp only [Memory.rising, Bool.and_eq_true, decide_eq_true_eq]
      exact ⟨h.1, ih _ h.2⟩
    · exact rising_mono (by omega) _ (ih _ h.2)

theorem rising_put (m : List Host.Cell) (a lo : Nat) (v : Byte) (hlo : lo ≤ a) (h : Memory.rising lo m = true) :
    Memory.rising lo (Memory.put m a v) = true := by
  induction m generalizing lo with
  | nil => simp [Memory.put, Memory.rising, hlo]
  | cons c rest ih =>
    obtain ⟨k, u⟩ := c
    simp only [Memory.rising, Bool.and_eq_true, decide_eq_true_eq] at h
    simp only [Memory.put]
    split
    · simp only [Memory.rising, Bool.and_eq_true, decide_eq_true_eq]
      exact ⟨hlo, by omega, h.2⟩
    · split
      · subst_vars
        simp only [Memory.rising, Bool.and_eq_true, decide_eq_true_eq]
        exact ⟨hlo, h.2⟩
      · simp only [Memory.rising, Bool.and_eq_true, decide_eq_true_eq]
        exact ⟨h.1, ih _ (by omega) h.2⟩

theorem mem_put (m : List Host.Cell) (a : Nat) (v : Byte) (c : Host.Cell) (h : c ∈ Memory.put m a v) : c = (a, v) ∨ c ∈ m := by
  induction m with
  | nil => simpa [Memory.put] using h
  | cons d rest ih =>
    obtain ⟨k, u⟩ := d
    simp only [Memory.put] at h
    split at h
    · simpa using h
    · split at h <;> simp only [List.mem_cons] at h ⊢
      · tauto
      · rcases h with h | h
        · exact .inr (.inl h)
        · rcases ih h with h | h
          · exact .inl h
          · exact .inr (.inr h)

/-- Every write keeps the canonical form. -/
theorem write_wf (size : Nat) (m : List Host.Cell) (a : Nat) (v : Byte) (ha : a < size)
    (h : Memory.wf bg size m = true) : Memory.wf bg size (Memory.write bg m a v) = true := by
  simp only [Memory.wf, Bool.and_eq_true, List.all_eq_true, decide_eq_true_eq, bne_iff_ne] at h ⊢
  unfold Memory.write
  split
  · exact ⟨rising_erase _ _ _ h.1, fun c hc => h.2 c (List.mem_of_mem_filter hc)⟩
  · next hv =>
    refine ⟨rising_put _ _ _ _ (Nat.zero_le _) h.1, fun c hc => ?_⟩
    rcases mem_put _ _ _ _ hc with rfl | hc
    · exact ⟨ha, hv⟩
    · exact h.2 c hc

/-- The cells of a byte sequence are in canonical form over an empty background, whatever the sequence. -/
theorem rising_ofBytes (bytes : List Byte) (a : Nat) : Memory.rising a (Memory.ofBytes a bytes) = true := by
  induction bytes generalizing a with
  | nil => rfl
  | cons b rest ih => simp [Memory.ofBytes, Memory.rising, ih]

/-- The cells of a byte sequence read as the sequence. -/
theorem lookup_ofBytes (bytes : List Byte) (a i : Nat) : Memory.lookup (Memory.ofBytes a bytes) (a + i) = bytes[i]? := by
  induction bytes generalizing a i with
  | nil => simp [Memory.ofBytes, Memory.lookup]
  | cons b rest ih =>
    cases i with
    | zero => simp [Memory.ofBytes, Memory.lookup]
    | succ i =>
      have := ih (a + 1) i
      simp only [Memory.ofBytes, Memory.lookup]
      rw [if_neg (by omega), show a + (i + 1) = a + 1 + i by omega, this]
      simp

end Sys2Proof.Machine
end

