-- ==== Sys2Proof/Laws/CodeTable.lean ====
section
/-! SUPPORT. What the map build does, said once: FIRST and SECOND hold, for each key, the lowest opcode whose row matches
(`41_codetable.md` R504, R505), and what `validate` says of every row (R503). -/

namespace Sys2Proof.Machine

/-- Row `op` is an entry of FIRST[k][s] (R504). -/
def isFirstRow (ct : List Host.Cell) (k s op : Nat) : Bool :=
  (firstHalf ct op).typ != typNoop && (secondHalf ct op).typ == typNoop
    && instIdx (firstHalf ct op).typ (firstHalf ct op).mode.toNat == k && (firstHalf ct op).size.toNat == s

/-- Row `op` is an entry of SECOND[f][k][s] (R505). -/
def isSecondRow (ct : List Host.Cell) (fst : List FirstEntry) (f : Byte) (k s op : Nat) : Bool :=
  (firstHalf ct op).typ != typNoop && (secondHalf ct op).typ != typNoop
    && firstAt fst (instIdx (firstHalf ct op).typ (firstHalf ct op).mode.toNat) (firstHalf ct op).size.toNat == some f
    && instIdx (secondHalf ct op).typ (secondHalf ct op).mode.toNat == k && (secondHalf ct op).size.toNat == s

theorem firstAt_append (m : List FirstEntry) (e : FirstEntry) (k s : Nat) :
    firstAt (m ++ [e]) k s = (firstAt m k s).or (if e.key = k ∧ e.size = s then some e.op else none) := by
  simp only [firstAt, List.find?_append, List.find?_singleton]
  cases m.find? (fun e => e.key == k && e.size == s) <;> simp

theorem secondAt_append (m : List SecondEntry) (e : SecondEntry) (f : Byte) (k s : Nat) :
    secondAt (m ++ [e]) f k s = (secondAt m f k s).or (if e.first = f ∧ e.key = k ∧ e.size = s then some e.op else none) := by
  simp only [secondAt, List.find?_append, List.find?_singleton]
  cases m.find? (fun e => e.first == f && e.key == k && e.size == s) <;> simp [and_assoc]

/-- One row of pass 1, on the row's halves. -/
theorem addFirst_eq (ct : List Host.Cell) (m : List FirstEntry) (n : Nat) :
    addFirst ct m n =
      if (firstHalf ct n).typ ≠ typNoop ∧ (secondHalf ct n).typ = typNoop ∧
          firstAt m (instIdx (firstHalf ct n).typ (firstHalf ct n).mode.toNat) (firstHalf ct n).size.toNat = none then
        m ++ [{ key := instIdx (firstHalf ct n).typ (firstHalf ct n).mode.toNat, size := (firstHalf ct n).size.toNat,
                op := BitVec.ofNat 8 n }]
      else m := rfl

/-- One row of pass 2, on the row's halves. -/
theorem addSecond_eq (ct : List Host.Cell) (fst : List FirstEntry) (m : List SecondEntry) (n : Nat) :
    addSecond ct fst m n =
      if (firstHalf ct n).typ ≠ typNoop ∧ (secondHalf ct n).typ ≠ typNoop then
        match firstAt fst (instIdx (firstHalf ct n).typ (firstHalf ct n).mode.toNat) (firstHalf ct n).size.toNat with
        | none => m
        | some f =>
          if secondAt m f (instIdx (secondHalf ct n).typ (secondHalf ct n).mode.toNat) (secondHalf ct n).size.toNat = none then
            m ++ [{ first := f, key := instIdx (secondHalf ct n).typ (secondHalf ct n).mode.toNat,
                    size := (secondHalf ct n).size.toNat, op := BitVec.ofNat 8 n }]
          else m
      else m := rfl

/-- Pass 1 over the first `n` rows. -/
theorem firstAt_pass (ct : List Host.Cell) (n k s : Nat) :
    firstAt ((List.range n).foldl (addFirst ct) []) k s = ((List.range n).find? (isFirstRow ct k s)).map (BitVec.ofNat 8) := by
  induction n generalizing k s with
  | zero => simp [firstAt]
  | succ n ih =>
    rw [List.range_succ, List.foldl_append, List.find?_append]
    simp only [List.foldl_cons, List.foldl_nil, addFirst_eq]
    by_cases h : (firstHalf ct n).typ ≠ typNoop ∧ (secondHalf ct n).typ = typNoop ∧
        firstAt ((List.range n).foldl (addFirst ct) []) (instIdx (firstHalf ct n).typ (firstHalf ct n).mode.toNat)
          (firstHalf ct n).size.toNat = none
    · rw [if_pos h]
      rw [firstAt_append, ih k s]
      have hn := h.2.2
      rw [ih] at hn
      by_cases hk : instIdx (firstHalf ct n).typ (firstHalf ct n).mode.toNat = k ∧ (firstHalf ct n).size.toNat = s
      · obtain ⟨rfl, rfl⟩ := hk
        simp only [Option.map_eq_none_iff] at hn
        simp [hn, isFirstRow, h.1, h.2.1]
      · rw [if_neg hk]
        have : isFirstRow ct k s n = false := by
          simp only [isFirstRow, Bool.and_eq_false_iff, beq_eq_false_iff_ne]
          tauto
        simp [this]
    · rw [if_neg h, ih k s]
      by_cases hr : isFirstRow ct k s n = true
      · have hsome : ((List.range n).find? (isFirstRow ct k s)).isSome := by
          simp only [isFirstRow, Bool.and_eq_true, bne_iff_ne, beq_iff_eq] at hr
          obtain ⟨⟨⟨h1, h2⟩, rfl⟩, rfl⟩ := hr
          by_contra hnone
          refine h ⟨h1, h2, ?_⟩
          rw [ih]
          simpa using hnone
        obtain ⟨o, ho⟩ := Option.isSome_iff_exists.mp hsome
        simp [ho]
      · simp [hr]

/-- FIRST[k][s] is the lowest opcode whose row matches (R504). -/
theorem firstAt_buildFirst (ct : List Host.Cell) (k s : Nat) :
    firstAt (buildFirst ct) k s = ((List.range 256).find? (isFirstRow ct k s)).map (BitVec.ofNat 8) :=
  firstAt_pass ct 256 k s

/-- Pass 2 over the first `n` rows. -/
theorem secondAt_pass (ct : List Host.Cell) (fst : List FirstEntry) (n : Nat) (f : Byte) (k s : Nat) :
    secondAt ((List.range n).foldl (addSecond ct fst) []) f k s =
      ((List.range n).find? (isSecondRow ct fst f k s)).map (BitVec.ofNat 8) := by
  induction n generalizing f k s with
  | zero => simp [secondAt]
  | succ n ih =>
    rw [List.range_succ, List.foldl_append, List.find?_append]
    simp only [List.foldl_cons, List.foldl_nil, addSecond_eq]
    by_cases h : (firstHalf ct n).typ ≠ typNoop ∧ (secondHalf ct n).typ ≠ typNoop
    · rw [if_pos h]
      cases hg : firstAt fst (instIdx (firstHalf ct n).typ (firstHalf ct n).mode.toNat) (firstHalf ct n).size.toNat with
      | none =>
        have : isSecondRow ct fst f k s n = false := by simp [isSecondRow, hg]
        simp [this, ih]
      | some g =>
        simp only
        by_cases hn : secondAt ((List.range n).foldl (addSecond ct fst) []) g
            (instIdx (secondHalf ct n).typ (secondHalf ct n).mode.toNat) (secondHalf ct n).size.toNat = none
        · rw [if_pos hn, secondAt_append, ih f k s]
          rw [ih] at hn
          by_cases hk : g = f ∧ instIdx (secondHalf ct n).typ (secondHalf ct n).mode.toNat = k ∧ (secondHalf ct n).size.toNat = s
          · obtain ⟨rfl, rfl, rfl⟩ := hk
            simp only [Option.map_eq_none_iff] at hn
            simp [hn, isSecondRow, h.1, h.2, hg]
          · rw [if_neg hk]
            have : isSecondRow ct fst f k s n = false := by
              simp only [isSecondRow, Bool.and_eq_false_iff, beq_eq_false_iff_ne, hg, ne_eq, Option.some.injEq]
              tauto
            simp [this]
        · rw [if_neg hn, ih f k s]
          by_cases hr : isSecondRow ct fst f k s n = true
          · have hsome : ((List.range n).find? (isSecondRow ct fst f k s)).isSome := by
              simp only [isSecondRow, Bool.and_eq_true, bne_iff_ne, beq_iff_eq, hg, Option.some.injEq] at hr
              obtain ⟨⟨⟨_, rfl⟩, rfl⟩, rfl⟩ := hr
              by_contra hnone
              refine hn ?_
              rw [ih]
              simpa using hnone
            obtain ⟨o, ho⟩ := Option.isSome_iff_exists.mp hsome
            simp [ho]
          · simp [hr]
    · rw [if_neg h]
      have : isSecondRow ct fst f k s n = false := by
        simp only [isSecondRow, Bool.and_eq_false_iff, bne_eq_false_iff_eq]
        tauto
      simp [this, ih]

/-- SECOND[f][k][s] is the lowest opcode whose row matches (R505). -/
theorem secondAt_buildSecond (ct : List Host.Cell) (fst : List FirstEntry) (f : Byte) (k s : Nat) :
    secondAt (buildSecond ct fst) f k s = ((List.range 256).find? (isSecondRow ct fst f k s)).map (BitVec.ofNat 8) :=
  secondAt_pass ct fst 256 f k s

/-- A lookup gives an entry at the exact size or at size 0 (R506). -/
theorem firstLookup_eq_some {m : List FirstEntry} {k s : Nat} {o : Byte} (h : firstLookup m k s = some o) :
    (s ≤ 255 ∧ firstAt m k s = some o) ∨ firstAt m k 0 = some o := by
  unfold firstLookup at h
  split at h
  · next o' ho =>
    split at ho
    · next hs =>
      cases h
      exact .inl ⟨hs, ho⟩
    · simp at ho
  · exact .inr h

theorem secondLookup_eq_some {m : List SecondEntry} {f : Byte} {k s : Nat} {o : Byte} (h : secondLookup m f k s = some o) :
    (s ≤ 255 ∧ secondAt m f k s = some o) ∨ secondAt m f k 0 = some o := by
  unfold secondLookup at h
  split at h
  · next o' ho =>
    split at ho
    · next hs =>
      cases h
      exact .inl ⟨hs, ho⟩
    · simp at ho
  · exact .inr h

/-- An entry of the built FIRST is a matching row. -/
theorem firstAt_row {ct : List Host.Cell} {k s : Nat} {o : Byte} (h : firstAt (buildFirst ct) k s = some o) :
    isFirstRow ct k s o.toNat = true := by
  rw [firstAt_buildFirst, Option.map_eq_some_iff] at h
  obtain ⟨n, hn, rfl⟩ := h
  have hlt : n < 256 := by simpa using List.mem_of_find?_eq_some hn
  have := List.find?_some hn
  rwa [BitVec.toNat_ofNat, Nat.mod_eq_of_lt (by simpa using hlt)]

/-- An entry of the built SECOND is a matching row. -/
theorem secondAt_row {ct : List Host.Cell} {fst : List FirstEntry} {f : Byte} {k s : Nat} {o : Byte}
    (h : secondAt (buildSecond ct fst) f k s = some o) : isSecondRow ct fst f k s o.toNat = true := by
  rw [secondAt_buildSecond, Option.map_eq_some_iff] at h
  obtain ⟨n, hn, rfl⟩ := h
  have hlt : n < 256 := by simpa using List.mem_of_find?_eq_some hn
  have := List.find?_some hn
  rwa [BitVec.toNat_ofNat, Nat.mod_eq_of_lt (by simpa using hlt)]

/-- Every half of a validated table is well-formed (R503 (1)). -/
theorem validate_half {ct : List Host.Cell} {maxMode : Nat} (h : validate ct maxMode = true) (op : Byte) :
    halfOk maxMode (firstHalf ct op.toNat) = true ∧ halfOk maxMode (secondHalf ct op.toNat) = true := by
  simp only [validate, Bool.and_eq_true, List.all_eq_true, List.mem_map, List.mem_range, forall_exists_index, and_imp] at h
  have := h.1 (ctRow ct op.toNat) op.toNat op.isLt rfl
  simpa [ctRow] using this

/-- Every reachable type and mode of a validated table has a size-0 single opcode (R503 (2)). -/
theorem validate_sizeZero {ct : List Host.Cell} {maxMode : Nat} (h : validate ct maxMode = true) {p : Byte × Nat}
    (hp : p ∈ reachablePairs maxMode) : ∃ op < 256, isSizeZeroSingle p.1 p.2 (ctRow ct op) = true := by
  simp only [validate, Bool.and_eq_true, List.all_eq_true, List.any_eq_true, List.mem_map, List.mem_range] at h
  obtain ⟨r, ⟨op, hop, rfl⟩, hr⟩ := h.2 p hp
  exact ⟨op, hop, hr⟩

theorem mem_reachablePairs (maxMode : Nat) (p : Byte × Nat) :
    p ∈ reachablePairs maxMode ↔ p = (typAdd, 0) ∨ p = (typRun, 0) ∨ (p.1 = typCopy ∧ p.2 ≤ maxMode) := by
  obtain ⟨a, b⟩ := p
  simp only [reachablePairs, List.mem_cons, Prod.mk.injEq, List.mem_map, List.mem_range]
  constructor
  · rintro (h | h | ⟨m, hm, rfl, rfl⟩)
    · exact .inl h
    · exact .inr (.inl h)
    · exact .inr (.inr ⟨rfl, by omega⟩)
  · rintro (h | h | ⟨rfl, h⟩)
    · exact .inl h
    · exact .inr (.inl h)
    · exact .inr (.inr ⟨b, by omega, rfl, rfl⟩)

/-- The size-0 entry of every reachable type and mode is in the built FIRST, so no lookup gives none (R506). -/
theorem firstAt_zero_isSome {ct : List Host.Cell} {maxMode : Nat} (h : validate ct maxMode = true) {typ : Byte} {mode : Nat}
    (hp : (typ, mode) ∈ reachablePairs maxMode) : (firstAt (buildFirst ct) (instIdx typ mode) 0).isSome = true := by
  obtain ⟨op, hop, hr⟩ := validate_sizeZero h hp
  simp only [isSizeZeroSingle, ctRow, Bool.and_eq_true, beq_iff_eq] at hr
  obtain ⟨⟨⟨h1, h2⟩, h3⟩, h4⟩ := hr
  rw [firstAt_buildFirst, Option.isSome_map, List.find?_isSome]
  refine ⟨op, by simpa using hop, ?_⟩
  have hne : typ ≠ typNoop := by
    rw [mem_reachablePairs] at hp
    rcases hp with hp | hp | hp
    · rw [(Prod.mk.inj hp).1]; decide
    · rw [(Prod.mk.inj hp).1]; decide
    · rw [show typ = typCopy from hp.1]; decide
  simp [isFirstRow, h1, h2, h3, h4, hne]

theorem firstLookup_isSome {ct : List Host.Cell} {maxMode : Nat} (h : validate ct maxMode = true) {typ : Byte} {mode : Nat}
    (hp : (typ, mode) ∈ reachablePairs maxMode) (s : Nat) : (firstLookup (buildFirst ct) (instIdx typ mode) s).isSome = true := by
  unfold firstLookup
  split
  · rfl
  · exact firstAt_zero_isSome h hp

/-- Every write to CT keeps its canonical form, and reads back (R203, R512). -/
theorem ctSet_wf {ct : List Host.Cell} {a r : Nat} (ha : a ≤ 5) (hr : r ≤ 255) (v : Byte)
    (h : Memory.wf defaultByte ctSize ct = true) : Memory.wf defaultByte ctSize (ctSet ct a r v) = true :=
  write_wf _ _ _ _ _ (by simp only [ctAddr, ctSize]; omega) h

theorem ctByte_ctSet (ct : List Host.Cell) (a r b q : Nat) (v : Byte) (hr : r ≤ 255) (hq : q ≤ 255) :
    ctByte (ctSet ct a r v) b q = if b = a ∧ q = r then v else ctByte ct b q := by
  unfold ctByte ctSet
  rw [read_write]
  congr 1
  simp only [ctAddr, eq_iff_iff]
  omega

/-- The inst-mode index tells valid type and mode pairs apart (R501). -/
theorem instIdx_inj {t t' : Byte} {m m' : Nat} (h1 : t = typAdd ∧ m = 0 ∨ t = typRun ∧ m = 0 ∨ t = typCopy)
    (h2 : t' = typAdd ∧ m' = 0 ∨ t' = typRun ∧ m' = 0 ∨ t' = typCopy) (h : instIdx t m = instIdx t' m') : t = t' ∧ m = m' := by
  rcases h1 with ⟨rfl, rfl⟩ | ⟨rfl, rfl⟩ | rfl <;> rcases h2 with ⟨rfl, rfl⟩ | ⟨rfl, rfl⟩ | rfl <;>
    simp [instIdx, typAdd, typRun, typCopy] at h ⊢ <;> omega

/-- A well-formed half that is not NOOP is ADD or RUN of mode 0, or COPY (R503 (1)). -/
theorem halfOk_shape {maxMode : Nat} {h : Half} (ho : halfOk maxMode h = true) (hn : h.typ ≠ typNoop) :
    h.typ = typAdd ∧ h.mode.toNat = 0 ∨ h.typ = typRun ∧ h.mode.toNat = 0 ∨ h.typ = typCopy := by
  simp only [halfOk, Bool.and_eq_true, Bool.or_eq_true, decide_eq_true_eq, bne_iff_ne, beq_iff_eq] at ho
  obtain ⟨⟨⟨h1, h2⟩, h3⟩, h4⟩ := ho
  have codes : h.typ = typNoop ∨ h.typ = typAdd ∨ h.typ = typRun ∨ h.typ = typCopy := by
    have : h.typ.toNat = 0 ∨ h.typ.toNat = 1 ∨ h.typ.toNat = 2 ∨ h.typ.toNat = 3 := by omega
    rcases this with h | h | h | h
    · exact .inl (BitVec.eq_of_toNat_eq h)
    · exact .inr (.inl (BitVec.eq_of_toNat_eq h))
    · exact .inr (.inr (.inl (BitVec.eq_of_toNat_eq h)))
    · exact .inr (.inr (.inr (BitVec.eq_of_toNat_eq h)))
  have mode : h.typ ≠ typCopy → h.mode.toNat = 0 := fun hc => by
    rcases h3 with h3 | h3
    · exact absurd h3 hc
    · simp [h3]
  rcases codes with h | h | h | h
  · exact absurd h hn
  · exact .inl ⟨h, mode (by rw [h]; decide)⟩
  · exact .inr (.inl ⟨h, mode (by rw [h]; decide)⟩)
  · exact .inr (.inr h)

/-- The opcode `firstLookup` gives is a single opcode of that type and mode, with that table size or 0 (R504, R506). -/
theorem firstLookup_row {ct : List Host.Cell} {maxMode : Nat} (hv : validate ct maxMode = true) {typ : Byte} {m size : Nat} {o : Byte}
    (ht : typ = typAdd ∧ m = 0 ∨ typ = typRun ∧ m = 0 ∨ typ = typCopy)
    (h : firstLookup (buildFirst ct) (instIdx typ m) size = some o) :
    (firstHalf ct o.toNat).typ = typ ∧ (firstHalf ct o.toNat).mode.toNat = m ∧ (secondHalf ct o.toNat).typ = typNoop ∧
      ((firstHalf ct o.toNat).size.toNat = size ∨ (firstHalf ct o.toNat).size = 0) := by
  have key : ∀ n, firstAt (buildFirst ct) (instIdx typ m) n = some o → (firstHalf ct o.toNat).typ = typ ∧
      (firstHalf ct o.toNat).mode.toNat = m ∧ (secondHalf ct o.toNat).typ = typNoop ∧ (firstHalf ct o.toNat).size.toNat = n := by
    intro n h
    have := firstAt_row h
    simp only [isFirstRow, Bool.and_eq_true, bne_iff_ne, beq_iff_eq] at this
    obtain ⟨⟨⟨h1, h2⟩, h3⟩, h4⟩ := this
    obtain ⟨rfl, h5⟩ := instIdx_inj (halfOk_shape (validate_half hv o).1 h1) ht h3
    exact ⟨rfl, h5, h2, h4⟩
  rcases firstLookup_eq_some h with ⟨_, h⟩ | h
  · obtain ⟨a, b, c, d⟩ := key _ h
    exact ⟨a, b, c, .inl d⟩
  · obtain ⟨a, b, c, d⟩ := key _ h
    exact ⟨a, b, c, .inr (BitVec.eq_of_toNat_eq d)⟩

/-- The opcode `secondLookup` gives has the first half of `f`'s row, and a second half of that type and mode, with that table size or
0 (R505, R506). -/
theorem secondLookup_row {ct : List Host.Cell} {maxMode : Nat} (hv : validate ct maxMode = true) {typ : Byte} {m size : Nat}
    {f c : Byte} (ht : typ = typAdd ∧ m = 0 ∨ typ = typRun ∧ m = 0 ∨ typ = typCopy)
    (h : secondLookup (buildSecond ct (buildFirst ct)) f (instIdx typ m) size = some c) :
    firstHalf ct c.toNat = firstHalf ct f.toNat ∧ (secondHalf ct f.toNat).typ = typNoop ∧ (firstHalf ct f.toNat).typ ≠ typNoop ∧
      (secondHalf ct c.toNat).typ = typ ∧ (secondHalf ct c.toNat).mode.toNat = m ∧
      ((secondHalf ct c.toNat).size.toNat = size ∨ (secondHalf ct c.toNat).size = 0) := by
  have key : ∀ n, secondAt (buildSecond ct (buildFirst ct)) f (instIdx typ m) n = some c →
      firstHalf ct c.toNat = firstHalf ct f.toNat ∧ (secondHalf ct f.toNat).typ = typNoop ∧ (firstHalf ct f.toNat).typ ≠ typNoop ∧
      (secondHalf ct c.toNat).typ = typ ∧ (secondHalf ct c.toNat).mode.toNat = m ∧ (secondHalf ct c.toNat).size.toNat = n := by
    intro n h
    have := secondAt_row h
    simp only [isSecondRow, Bool.and_eq_true, bne_iff_ne, beq_iff_eq] at this
    obtain ⟨⟨⟨⟨h1, h2⟩, h3⟩, h4⟩, h5⟩ := this
    obtain ⟨rfl, h6⟩ := instIdx_inj (halfOk_shape (validate_half hv c).2 h2) ht h4
    have h7 := firstAt_row h3
    simp only [isFirstRow, Bool.and_eq_true, bne_iff_ne, beq_iff_eq] at h7
    obtain ⟨⟨⟨g1, g2⟩, g3⟩, g4⟩ := h7
    obtain ⟨e1, e2⟩ := instIdx_inj (halfOk_shape (validate_half hv f).1 g1) (halfOk_shape (validate_half hv c).1 h1) g3
    refine ⟨?_, g2, g1, rfl, h6, h5⟩
    have e2 := BitVec.eq_of_toNat_eq e2
    have g4 := BitVec.eq_of_toNat_eq g4
    cases hx : firstHalf ct c.toNat
    cases hy : firstHalf ct f.toNat
    rw [hx, hy] at e1 e2 g4
    simp only at e1 e2 g4
    simp [e1, e2, g4]
  rcases secondLookup_eq_some h with ⟨_, h⟩ | h
  · obtain ⟨a, b, c, d, e, f⟩ := key _ h
    exact ⟨a, b, c, d, e, .inl f⟩
  · obtain ⟨a, b, c, d, e, f⟩ := key _ h
    exact ⟨a, b, c, d, e, .inr (BitVec.eq_of_toNat_eq f)⟩

end Sys2Proof.Machine
end

