-- ==== Sys2Proof/Laws/PerInstr.lean ====
section
/-! SUPPORT. Per-instruction lemmas, family `RoundTrip`: the word the encoder gives an instruction decodes to it, in the space the
encoder names, with no byte left. One lemma per constructor of `Instr`. -/

namespace Sys2Proof.Laws.RoundTrip

/-- The instruction's own word decodes to it. -/
def Statement (i : Instr) : Prop := decode (encode i).1 [(encode i).2] = .ok (i, [])

theorem nop : Statement .nop := rfl
theorem venc32 : Statement .venc32 := rfl
theorem venc64 : Statement .venc64 := rfl
theorem vdec32 : Statement .vdec32 := rfl
theorem vdec64 : Statement .vdec64 := rfl
theorem ctLoadDefault : Statement .ctLoadDefault := rfl
theorem ctSetCache : Statement .ctSetCache := rfl
theorem ctWrite : Statement .ctWrite := rfl
theorem ctRead : Statement .ctRead := rfl
theorem ctCommit : Statement .ctCommit := rfl
theorem mapFirst : Statement .mapFirst := rfl
theorem mapSecond : Statement .mapSecond := rfl
theorem rdStart : Statement .rdStart := rfl
theorem rdExtend : Statement .rdExtend := rfl
theorem rdSeek : Statement .rdSeek := rfl
theorem rdGet : Statement .rdGet := rfl
theorem rdUnget : Statement .rdUnget := rfl
theorem wrAdd : Statement .wrAdd := rfl
theorem wrRun : Statement .wrRun := rfl
theorem wrCopy : Statement .wrCopy := rfl
theorem wrOutput : Statement .wrOutput := rfl
theorem wrDiscard : Statement .wrDiscard := rfl
theorem fhWrite : Statement .fhWrite := rfl
theorem fhParse : Statement .fhParse := rfl
theorem whParse : Statement .whParse := rfl
theorem winEnd : Statement .winEnd := rfl
theorem regRead : Statement .regRead := rfl
theorem regWrite : Statement .regWrite := rfl
theorem inAppend : Statement .inAppend := rfl
theorem reset : Statement .reset := rfl
theorem opRun : Statement .opRun := rfl
theorem opAdd : Statement .opAdd := rfl
theorem opAdd1 : Statement .opAdd1 := rfl
theorem opAdd2 : Statement .opAdd2 := rfl
theorem opAdd3 : Statement .opAdd3 := rfl
theorem opAdd4 : Statement .opAdd4 := rfl
theorem opAdd5 : Statement .opAdd5 := rfl
theorem opAdd6 : Statement .opAdd6 := rfl
theorem opAdd7 : Statement .opAdd7 := rfl
theorem opAdd8 : Statement .opAdd8 := rfl
theorem opAdd9 : Statement .opAdd9 := rfl
theorem opAdd10 : Statement .opAdd10 := rfl
theorem opAdd11 : Statement .opAdd11 := rfl
theorem opAdd12 : Statement .opAdd12 := rfl
theorem opAdd13 : Statement .opAdd13 := rfl
theorem opAdd14 : Statement .opAdd14 := rfl
theorem opAdd15 : Statement .opAdd15 := rfl
theorem opAdd16 : Statement .opAdd16 := rfl
theorem opAdd17 : Statement .opAdd17 := rfl
theorem opCopyM0 : Statement .opCopyM0 := rfl
theorem opCopy4M0 : Statement .opCopy4M0 := rfl
theorem opCopy5M0 : Statement .opCopy5M0 := rfl
theorem opCopy6M0 : Statement .opCopy6M0 := rfl
theorem opCopy7M0 : Statement .opCopy7M0 := rfl
theorem opCopy8M0 : Statement .opCopy8M0 := rfl
theorem opCopy9M0 : Statement .opCopy9M0 := rfl
theorem opCopy10M0 : Statement .opCopy10M0 := rfl
theorem opCopy11M0 : Statement .opCopy11M0 := rfl
theorem opCopy12M0 : Statement .opCopy12M0 := rfl
theorem opCopy13M0 : Statement .opCopy13M0 := rfl
theorem opCopy14M0 : Statement .opCopy14M0 := rfl
theorem opCopy15M0 : Statement .opCopy15M0 := rfl
theorem opCopy16M0 : Statement .opCopy16M0 := rfl
theorem opCopy17M0 : Statement .opCopy17M0 := rfl
theorem opCopy18M0 : Statement .opCopy18M0 := rfl
theorem opCopyM1 : Statement .opCopyM1 := rfl
theorem opCopy4M1 : Statement .opCopy4M1 := rfl
theorem opCopy5M1 : Statement .opCopy5M1 := rfl
theorem opCopy6M1 : Statement .opCopy6M1 := rfl
theorem opCopy7M1 : Statement .opCopy7M1 := rfl
theorem opCopy8M1 : Statement .opCopy8M1 := rfl
theorem opCopy9M1 : Statement .opCopy9M1 := rfl
theorem opCopy10M1 : Statement .opCopy10M1 := rfl
theorem opCopy11M1 : Statement .opCopy11M1 := rfl
theorem opCopy12M1 : Statement .opCopy12M1 := rfl
theorem opCopy13M1 : Statement .opCopy13M1 := rfl
theorem opCopy14M1 : Statement .opCopy14M1 := rfl
theorem opCopy15M1 : Statement .opCopy15M1 := rfl
theorem opCopy16M1 : Statement .opCopy16M1 := rfl
theorem opCopy17M1 : Statement .opCopy17M1 := rfl
theorem opCopy18M1 : Statement .opCopy18M1 := rfl
theorem opCopyM2 : Statement .opCopyM2 := rfl
theorem opCopy4M2 : Statement .opCopy4M2 := rfl
theorem opCopy5M2 : Statement .opCopy5M2 := rfl
theorem opCopy6M2 : Statement .opCopy6M2 := rfl
theorem opCopy7M2 : Statement .opCopy7M2 := rfl
theorem opCopy8M2 : Statement .opCopy8M2 := rfl
theorem opCopy9M2 : Statement .opCopy9M2 := rfl
theorem opCopy10M2 : Statement .opCopy10M2 := rfl
theorem opCopy11M2 : Statement .opCopy11M2 := rfl
theorem opCopy12M2 : Statement .opCopy12M2 := rfl
theorem opCopy13M2 : Statement .opCopy13M2 := rfl
theorem opCopy14M2 : Statement .opCopy14M2 := rfl
theorem opCopy15M2 : Statement .opCopy15M2 := rfl
theorem opCopy16M2 : Statement .opCopy16M2 := rfl
theorem opCopy17M2 : Statement .opCopy17M2 := rfl
theorem opCopy18M2 : Statement .opCopy18M2 := rfl
theorem opCopyM3 : Statement .opCopyM3 := rfl
theorem opCopy4M3 : Statement .opCopy4M3 := rfl
theorem opCopy5M3 : Statement .opCopy5M3 := rfl
theorem opCopy6M3 : Statement .opCopy6M3 := rfl
theorem opCopy7M3 : Statement .opCopy7M3 := rfl
theorem opCopy8M3 : Statement .opCopy8M3 := rfl
theorem opCopy9M3 : Statement .opCopy9M3 := rfl
theorem opCopy10M3 : Statement .opCopy10M3 := rfl
theorem opCopy11M3 : Statement .opCopy11M3 := rfl
theorem opCopy12M3 : Statement .opCopy12M3 := rfl
theorem opCopy13M3 : Statement .opCopy13M3 := rfl
theorem opCopy14M3 : Statement .opCopy14M3 := rfl
theorem opCopy15M3 : Statement .opCopy15M3 := rfl
theorem opCopy16M3 : Statement .opCopy16M3 := rfl
theorem opCopy17M3 : Statement .opCopy17M3 := rfl
theorem opCopy18M3 : Statement .opCopy18M3 := rfl
theorem opCopyM4 : Statement .opCopyM4 := rfl
theorem opCopy4M4 : Statement .opCopy4M4 := rfl
theorem opCopy5M4 : Statement .opCopy5M4 := rfl
theorem opCopy6M4 : Statement .opCopy6M4 := rfl
theorem opCopy7M4 : Statement .opCopy7M4 := rfl
theorem opCopy8M4 : Statement .opCopy8M4 := rfl
theorem opCopy9M4 : Statement .opCopy9M4 := rfl
theorem opCopy10M4 : Statement .opCopy10M4 := rfl
theorem opCopy11M4 : Statement .opCopy11M4 := rfl
theorem opCopy12M4 : Statement .opCopy12M4 := rfl
theorem opCopy13M4 : Statement .opCopy13M4 := rfl
theorem opCopy14M4 : Statement .opCopy14M4 := rfl
theorem opCopy15M4 : Statement .opCopy15M4 := rfl
theorem opCopy16M4 : Statement .opCopy16M4 := rfl
theorem opCopy17M4 : Statement .opCopy17M4 := rfl
theorem opCopy18M4 : Statement .opCopy18M4 := rfl
theorem opCopyM5 : Statement .opCopyM5 := rfl
theorem opCopy4M5 : Statement .opCopy4M5 := rfl
theorem opCopy5M5 : Statement .opCopy5M5 := rfl
theorem opCopy6M5 : Statement .opCopy6M5 := rfl
theorem opCopy7M5 : Statement .opCopy7M5 := rfl
theorem opCopy8M5 : Statement .opCopy8M5 := rfl
theorem opCopy9M5 : Statement .opCopy9M5 := rfl
theorem opCopy10M5 : Statement .opCopy10M5 := rfl
theorem opCopy11M5 : Statement .opCopy11M5 := rfl
theorem opCopy12M5 : Statement .opCopy12M5 := rfl
theorem opCopy13M5 : Statement .opCopy13M5 := rfl
theorem opCopy14M5 : Statement .opCopy14M5 := rfl
theorem opCopy15M5 : Statement .opCopy15M5 := rfl
theorem opCopy16M5 : Statement .opCopy16M5 := rfl
theorem opCopy17M5 : Statement .opCopy17M5 := rfl
theorem opCopy18M5 : Statement .opCopy18M5 := rfl
theorem opCopyM6 : Statement .opCopyM6 := rfl
theorem opCopy4M6 : Statement .opCopy4M6 := rfl
theorem opCopy5M6 : Statement .opCopy5M6 := rfl
theorem opCopy6M6 : Statement .opCopy6M6 := rfl
theorem opCopy7M6 : Statement .opCopy7M6 := rfl
theorem opCopy8M6 : Statement .opCopy8M6 := rfl
theorem opCopy9M6 : Statement .opCopy9M6 := rfl
theorem opCopy10M6 : Statement .opCopy10M6 := rfl
theorem opCopy11M6 : Statement .opCopy11M6 := rfl
theorem opCopy12M6 : Statement .opCopy12M6 := rfl
theorem opCopy13M6 : Statement .opCopy13M6 := rfl
theorem opCopy14M6 : Statement .opCopy14M6 := rfl
theorem opCopy15M6 : Statement .opCopy15M6 := rfl
theorem opCopy16M6 : Statement .opCopy16M6 := rfl
theorem opCopy17M6 : Statement .opCopy17M6 := rfl
theorem opCopy18M6 : Statement .opCopy18M6 := rfl
theorem opCopyM7 : Statement .opCopyM7 := rfl
theorem opCopy4M7 : Statement .opCopy4M7 := rfl
theorem opCopy5M7 : Statement .opCopy5M7 := rfl
theorem opCopy6M7 : Statement .opCopy6M7 := rfl
theorem opCopy7M7 : Statement .opCopy7M7 := rfl
theorem opCopy8M7 : Statement .opCopy8M7 := rfl
theorem opCopy9M7 : Statement .opCopy9M7 := rfl
theorem opCopy10M7 : Statement .opCopy10M7 := rfl
theorem opCopy11M7 : Statement .opCopy11M7 := rfl
theorem opCopy12M7 : Statement .opCopy12M7 := rfl
theorem opCopy13M7 : Statement .opCopy13M7 := rfl
theorem opCopy14M7 : Statement .opCopy14M7 := rfl
theorem opCopy15M7 : Statement .opCopy15M7 := rfl
theorem opCopy16M7 : Statement .opCopy16M7 := rfl
theorem opCopy17M7 : Statement .opCopy17M7 := rfl
theorem opCopy18M7 : Statement .opCopy18M7 := rfl
theorem opCopyM8 : Statement .opCopyM8 := rfl
theorem opCopy4M8 : Statement .opCopy4M8 := rfl
theorem opCopy5M8 : Statement .opCopy5M8 := rfl
theorem opCopy6M8 : Statement .opCopy6M8 := rfl
theorem opCopy7M8 : Statement .opCopy7M8 := rfl
theorem opCopy8M8 : Statement .opCopy8M8 := rfl
theorem opCopy9M8 : Statement .opCopy9M8 := rfl
theorem opCopy10M8 : Statement .opCopy10M8 := rfl
theorem opCopy11M8 : Statement .opCopy11M8 := rfl
theorem opCopy12M8 : Statement .opCopy12M8 := rfl
theorem opCopy13M8 : Statement .opCopy13M8 := rfl
theorem opCopy14M8 : Statement .opCopy14M8 := rfl
theorem opCopy15M8 : Statement .opCopy15M8 := rfl
theorem opCopy16M8 : Statement .opCopy16M8 := rfl
theorem opCopy17M8 : Statement .opCopy17M8 := rfl
theorem opCopy18M8 : Statement .opCopy18M8 := rfl
theorem opAdd1Copy4M0 : Statement .opAdd1Copy4M0 := rfl
theorem opAdd1Copy5M0 : Statement .opAdd1Copy5M0 := rfl
theorem opAdd1Copy6M0 : Statement .opAdd1Copy6M0 := rfl
theorem opAdd2Copy4M0 : Statement .opAdd2Copy4M0 := rfl
theorem opAdd2Copy5M0 : Statement .opAdd2Copy5M0 := rfl
theorem opAdd2Copy6M0 : Statement .opAdd2Copy6M0 := rfl
theorem opAdd3Copy4M0 : Statement .opAdd3Copy4M0 := rfl
theorem opAdd3Copy5M0 : Statement .opAdd3Copy5M0 := rfl
theorem opAdd3Copy6M0 : Statement .opAdd3Copy6M0 := rfl
theorem opAdd4Copy4M0 : Statement .opAdd4Copy4M0 := rfl
theorem opAdd4Copy5M0 : Statement .opAdd4Copy5M0 := rfl
theorem opAdd4Copy6M0 : Statement .opAdd4Copy6M0 := rfl
theorem opAdd1Copy4M1 : Statement .opAdd1Copy4M1 := rfl
theorem opAdd1Copy5M1 : Statement .opAdd1Copy5M1 := rfl
theorem opAdd1Copy6M1 : Statement .opAdd1Copy6M1 := rfl
theorem opAdd2Copy4M1 : Statement .opAdd2Copy4M1 := rfl
theorem opAdd2Copy5M1 : Statement .opAdd2Copy5M1 := rfl
theorem opAdd2Copy6M1 : Statement .opAdd2Copy6M1 := rfl
theorem opAdd3Copy4M1 : Statement .opAdd3Copy4M1 := rfl
theorem opAdd3Copy5M1 : Statement .opAdd3Copy5M1 := rfl
theorem opAdd3Copy6M1 : Statement .opAdd3Copy6M1 := rfl
theorem opAdd4Copy4M1 : Statement .opAdd4Copy4M1 := rfl
theorem opAdd4Copy5M1 : Statement .opAdd4Copy5M1 := rfl
theorem opAdd4Copy6M1 : Statement .opAdd4Copy6M1 := rfl
theorem opAdd1Copy4M2 : Statement .opAdd1Copy4M2 := rfl
theorem opAdd1Copy5M2 : Statement .opAdd1Copy5M2 := rfl
theorem opAdd1Copy6M2 : Statement .opAdd1Copy6M2 := rfl
theorem opAdd2Copy4M2 : Statement .opAdd2Copy4M2 := rfl
theorem opAdd2Copy5M2 : Statement .opAdd2Copy5M2 := rfl
theorem opAdd2Copy6M2 : Statement .opAdd2Copy6M2 := rfl
theorem opAdd3Copy4M2 : Statement .opAdd3Copy4M2 := rfl
theorem opAdd3Copy5M2 : Statement .opAdd3Copy5M2 := rfl
theorem opAdd3Copy6M2 : Statement .opAdd3Copy6M2 := rfl
theorem opAdd4Copy4M2 : Statement .opAdd4Copy4M2 := rfl
theorem opAdd4Copy5M2 : Statement .opAdd4Copy5M2 := rfl
theorem opAdd4Copy6M2 : Statement .opAdd4Copy6M2 := rfl
theorem opAdd1Copy4M3 : Statement .opAdd1Copy4M3 := rfl
theorem opAdd1Copy5M3 : Statement .opAdd1Copy5M3 := rfl
theorem opAdd1Copy6M3 : Statement .opAdd1Copy6M3 := rfl
theorem opAdd2Copy4M3 : Statement .opAdd2Copy4M3 := rfl
theorem opAdd2Copy5M3 : Statement .opAdd2Copy5M3 := rfl
theorem opAdd2Copy6M3 : Statement .opAdd2Copy6M3 := rfl
theorem opAdd3Copy4M3 : Statement .opAdd3Copy4M3 := rfl
theorem opAdd3Copy5M3 : Statement .opAdd3Copy5M3 := rfl
theorem opAdd3Copy6M3 : Statement .opAdd3Copy6M3 := rfl
theorem opAdd4Copy4M3 : Statement .opAdd4Copy4M3 := rfl
theorem opAdd4Copy5M3 : Statement .opAdd4Copy5M3 := rfl
theorem opAdd4Copy6M3 : Statement .opAdd4Copy6M3 := rfl
theorem opAdd1Copy4M4 : Statement .opAdd1Copy4M4 := rfl
theorem opAdd1Copy5M4 : Statement .opAdd1Copy5M4 := rfl
theorem opAdd1Copy6M4 : Statement .opAdd1Copy6M4 := rfl
theorem opAdd2Copy4M4 : Statement .opAdd2Copy4M4 := rfl
theorem opAdd2Copy5M4 : Statement .opAdd2Copy5M4 := rfl
theorem opAdd2Copy6M4 : Statement .opAdd2Copy6M4 := rfl
theorem opAdd3Copy4M4 : Statement .opAdd3Copy4M4 := rfl
theorem opAdd3Copy5M4 : Statement .opAdd3Copy5M4 := rfl
theorem opAdd3Copy6M4 : Statement .opAdd3Copy6M4 := rfl
theorem opAdd4Copy4M4 : Statement .opAdd4Copy4M4 := rfl
theorem opAdd4Copy5M4 : Statement .opAdd4Copy5M4 := rfl
theorem opAdd4Copy6M4 : Statement .opAdd4Copy6M4 := rfl
theorem opAdd1Copy4M5 : Statement .opAdd1Copy4M5 := rfl
theorem opAdd1Copy5M5 : Statement .opAdd1Copy5M5 := rfl
theorem opAdd1Copy6M5 : Statement .opAdd1Copy6M5 := rfl
theorem opAdd2Copy4M5 : Statement .opAdd2Copy4M5 := rfl
theorem opAdd2Copy5M5 : Statement .opAdd2Copy5M5 := rfl
theorem opAdd2Copy6M5 : Statement .opAdd2Copy6M5 := rfl
theorem opAdd3Copy4M5 : Statement .opAdd3Copy4M5 := rfl
theorem opAdd3Copy5M5 : Statement .opAdd3Copy5M5 := rfl
theorem opAdd3Copy6M5 : Statement .opAdd3Copy6M5 := rfl
theorem opAdd4Copy4M5 : Statement .opAdd4Copy4M5 := rfl
theorem opAdd4Copy5M5 : Statement .opAdd4Copy5M5 := rfl
theorem opAdd4Copy6M5 : Statement .opAdd4Copy6M5 := rfl
theorem opAdd1Copy4M6 : Statement .opAdd1Copy4M6 := rfl
theorem opAdd2Copy4M6 : Statement .opAdd2Copy4M6 := rfl
theorem opAdd3Copy4M6 : Statement .opAdd3Copy4M6 := rfl
theorem opAdd4Copy4M6 : Statement .opAdd4Copy4M6 := rfl
theorem opAdd1Copy4M7 : Statement .opAdd1Copy4M7 := rfl
theorem opAdd2Copy4M7 : Statement .opAdd2Copy4M7 := rfl
theorem opAdd3Copy4M7 : Statement .opAdd3Copy4M7 := rfl
theorem opAdd4Copy4M7 : Statement .opAdd4Copy4M7 := rfl
theorem opAdd1Copy4M8 : Statement .opAdd1Copy4M8 := rfl
theorem opAdd2Copy4M8 : Statement .opAdd2Copy4M8 := rfl
theorem opAdd3Copy4M8 : Statement .opAdd3Copy4M8 := rfl
theorem opAdd4Copy4M8 : Statement .opAdd4Copy4M8 := rfl
theorem opCopy4M0Add1 : Statement .opCopy4M0Add1 := rfl
theorem opCopy4M1Add1 : Statement .opCopy4M1Add1 := rfl
theorem opCopy4M2Add1 : Statement .opCopy4M2Add1 := rfl
theorem opCopy4M3Add1 : Statement .opCopy4M3Add1 := rfl
theorem opCopy4M4Add1 : Statement .opCopy4M4Add1 := rfl
theorem opCopy4M5Add1 : Statement .opCopy4M5Add1 := rfl
theorem opCopy4M6Add1 : Statement .opCopy4M6Add1 := rfl
theorem opCopy4M7Add1 : Statement .opCopy4M7Add1 := rfl
theorem opCopy4M8Add1 : Statement .opCopy4M8Add1 := rfl

end Sys2Proof.Laws.RoundTrip
end

