-- ==== Sys2Proof/Laws/Step.lean ====
section
/-! SUPPORT. What a step can do, said once: run a command, end ILLEGAL, or answer an access of the host; and how the parsers' field
readers end a command (`44_window_parser.md` R800). -/

namespace Sys2Proof.Machine

variable {s t : State}

/-- The inversion of a step (R100, R210, R905): a command at the state with the write taken, an unknown code, or an access that
touches nothing but the arguments and the host's own fields. -/
theorem step_cases (h : step s = .next t) :
    (∃ code rest i, s.host = .writeCmd code :: rest ∧ decodeCommand code = some i ∧
        exec i { s with host := rest, cmd := code } = .next t) ∨
      (∃ code rest, s.host = .writeCmd code :: rest ∧ decodeCommand code = none ∧
        t = { s with host := rest, cmd := code, status := .illegal }) ∨
      (∃ rest arg data reads, t = { s with host := rest, arg := arg, hostData := data, freeReads := reads }) := by
  unfold step fetch at h
  cases hh : s.host with
  | nil =>
    simp only [hh, Host.Outcome.next.injEq] at h
    subst h
    exact .inr (.inr ⟨_, _, _, _, rfl⟩)
  | cons a rest =>
    simp only [hh] at h
    cases a with
    | writeCmd code =>
      simp only at h
      cases hd : decodeCommand code with
      | none =>
        simp only [hd] at h
        cases h
        exact .inr (.inl ⟨_, _, rfl, hd, rfl⟩)
      | some i =>
        simp only [hd] at h
        exact .inl ⟨_, _, _, rfl, hd, h⟩
    | writeArg i v => cases h; exact .inr (.inr ⟨_, _, _, _, rfl⟩)
    | readRes i => cases h; exact .inr (.inr ⟨_, _, _, _, rfl⟩)
    | readStatus => cases h; exact .inr (.inr ⟨_, _, _, _, rfl⟩)
    | readCmd => cases h; exact .inr (.inr ⟨_, _, _, _, rfl⟩)
    | readOut p =>
      simp only [answerByte] at h
      split at h
      · cases h; exact .inr (.inr ⟨_, _, _, _, rfl⟩)
      · cases h
    | readIn p =>
      simp only [answerByte] at h
      split at h
      · cases h; exact .inr (.inr ⟨_, _, _, _, rfl⟩)
      · cases h

theorem finish_need (p : Nat) (g : Byte → Except Failure State) :
    finish s (need s p >>= g) = onByte s p (fun b => finish s (g b)) := by
  unfold need onByte State.inRead
  cases s.inp[p]? <;> rfl

theorem finish_ck32 (p : Nat) (g : Nat × Nat → Except Failure State) :
    finish s (ck32 s p >>= g) = onVarint s p (fun v q => finish s (g (v, q))) := by
  unfold ck32 onVarint
  cases vdec32 s.inp p s.inLen <;> rfl

theorem finish_field32 (p : Nat) (g : Nat × Nat → Except Failure State) :
    finish s (field32 s p >>= g) = onField s p (fun v q => finish s (g (v, q))) := by
  unfold field32 onField
  rw [bind_assoc, finish_ck32]
  congr 1
  funext v q
  simp only [bind_assoc, finish_check]
  by_cases h : v ≤ maxField
  · rw [if_pos h, if_neg (by omega)]
    rfl
  · rw [if_neg h, if_pos (by omega)]
    rfl

/-- Reading one byte of a known sequence at `p`. -/
theorem onByte_drop {p : Nat} {b : Byte} {rest : List Byte} (h : s.inp.drop p = b :: rest) (go : Byte → State) :
    onByte s p go = go b ∧ s.inp.drop (p + 1) = rest := by
  have h1 : s.inp[p]? = some b := by
    have h0 := congrArg (·[0]?) h
    simpa using h0
  have h2 := congrArg (List.drop 1) h
  simp only [List.drop_drop, List.drop_one, List.tail_cons] at h2
  exact ⟨by simp [onByte, h1], h2⟩

/-- Everything `emit` can do: pair with the opcode at WR_LAST, or append a single opcode (R702). -/
theorem emit_ok {typ : Byte} {sz m : Nat} {e : Emitted} (h : emit s typ sz m = .ok e) :
    (∃ pos f c, s.wrLast = some pos ∧ s.insts[pos]? = some f ∧ secondLookup s.second f (instIdx typ m) sz = some c ∧
        e = { insts := s.insts.set pos c ++ sizeBytes (secondHalf s.ct c.toNat) sz, last := none }) ∨
      (∃ o, firstLookup s.first (instIdx typ m) sz = some o ∧
        e = { insts := s.insts ++ [o] ++ sizeBytes (firstHalf s.ct o.toNat) sz, last := some s.insts.length }) := by
  unfold emit at h
  cases hp : pairing s (instIdx typ m) sz with
  | none =>
    simp only [hp, bind_eq_ok, needOpcode_eq_ok] at h
    obtain ⟨o, ho, h⟩ := h
    exact .inr ⟨o, ho, (Except.ok.inj h).symm⟩
  | some pc =>
    obtain ⟨pos, c⟩ := pc
    simp only [hp] at h
    unfold pairing at hp
    cases hl : s.wrLast with
    | none => simp [hl] at hp
    | some pos' =>
      cases hf : s.insts[pos']? with
      | none => simp [hl, hf] at hp
      | some f =>
        simp only [hl, hf, Option.map_eq_some_iff, Prod.mk.injEq] at hp
        obtain ⟨c', hc, rfl, rfl⟩ := hp
        exact .inl ⟨pos', f, c', rfl, hf, hc, (Except.ok.inj h).symm⟩

end Sys2Proof.Machine
end

