-- ==== Sys2Proof/WellFormed.lean ====
section
/-! DEFINITION. Which assembler lines a host program may hold (`30_encoding.md` R300, R302, R303). An `Instr` alone has no
fields, so every `Instr` is well-formed; what can be ill-formed is a line. -/

namespace Sys2Proof

/-- An operand fits the 64-bit ARG register it is placed in (R302). -/
def operandFits (v : Nat) : Bool := v < 18446744073709551616

/-- The checks on a line: the mnemonic is a command (an opcode byte is never written to CMD), at most as many operands as R300
lists, each fitting its register; bytes are bytes, ASCII codes are below 128, a custom table has 1536 bytes (R324). -/
def AsmLine.wellFormed : AsmLine → Bool
  | .command i operands =>
    match i.operandCount with
    | none => false
    | some n => operands.length ≤ n && operands.all operandFits
  | .inBytes bytes => bytes.all (· < 256)
  | .inStr codes => codes.all (· < 128)
  | .ctLoadCustom near same table =>
    operandFits near && operandFits same && table.length == 1536 && table.all (· < 256)
  | .set reg v => operandFits reg && operandFits v
  | .get reg => operandFits reg

end Sys2Proof
end

