-- ==== Sys2Proof/Tests/Slice0.lean ====
section
/-! SUPPORT. The model's own tests. Expected values come from `spec/`: the encodings of `30_encoding.md` and `opcode_table.json`, and the
vectors of `95_test_vectors.md` (its section is named at each test). Then one witness for every statement that has hypotheses. -/

namespace Sys2Proof.Tests

open Sys2Proof.Machine

-- The proofs by evaluation are checked one after another: side by side they exhaust the threads.
set_option Elab.async false

/-! ### Decoding: every word of the table, written out (R300, R320) -/

theorem test_decode_commands :
    [0x00, 0x01, 0x02, 0x03, 0x04, 0x10, 0x11, 0x12, 0x13, 0x14, 0x18, 0x19, 0x20, 0x21, 0x22, 0x23, 0x24, 0x30, 0x31, 0x32, 0x33, 0x34, 0x35, 0x40, 0x41, 0x42, 0x70, 0x71, 0x72, 0x7F].map (fun b : Byte => decode .command [b]) =
      [Instr.nop, .venc32, .venc64, .vdec32, .vdec64, .ctLoadDefault, .ctSetCache, .ctWrite, .ctRead, .ctCommit, .mapFirst, .mapSecond, .rdStart, .rdExtend, .rdSeek, .rdGet, .rdUnget, .wrAdd, .wrRun, .wrCopy, .wrOutput, .wrDiscard, .fhWrite, .fhParse, .whParse, .winEnd, .regRead, .regWrite, .inAppend, .reset].map (fun i => .ok (i, [])) := by decide

theorem test_decode_opcodes_00 :
    [0x00, 0x01, 0x02, 0x03, 0x04, 0x05, 0x06, 0x07, 0x08, 0x09, 0x0A, 0x0B, 0x0C, 0x0D, 0x0E, 0x0F, 0x10, 0x11, 0x12, 0x13, 0x14, 0x15, 0x16, 0x17, 0x18, 0x19, 0x1A, 0x1B, 0x1C, 0x1D, 0x1E, 0x1F].map (fun b : Byte => decode .stream [b]) =
      [Instr.opRun, .opAdd, .opAdd1, .opAdd2, .opAdd3, .opAdd4, .opAdd5, .opAdd6, .opAdd7, .opAdd8, .opAdd9, .opAdd10, .opAdd11, .opAdd12, .opAdd13, .opAdd14, .opAdd15, .opAdd16, .opAdd17, .opCopyM0, .opCopy4M0, .opCopy5M0, .opCopy6M0, .opCopy7M0, .opCopy8M0, .opCopy9M0, .opCopy10M0, .opCopy11M0, .opCopy12M0, .opCopy13M0, .opCopy14M0, .opCopy15M0].map (fun i => .ok (i, [])) := by decide

theorem test_decode_opcodes_20 :
    [0x20, 0x21, 0x22, 0x23, 0x24, 0x25, 0x26, 0x27, 0x28, 0x29, 0x2A, 0x2B, 0x2C, 0x2D, 0x2E, 0x2F, 0x30, 0x31, 0x32, 0x33, 0x34, 0x35, 0x36, 0x37, 0x38, 0x39, 0x3A, 0x3B, 0x3C, 0x3D, 0x3E, 0x3F].map (fun b : Byte => decode .stream [b]) =
      [Instr.opCopy16M0, .opCopy17M0, .opCopy18M0, .opCopyM1, .opCopy4M1, .opCopy5M1, .opCopy6M1, .opCopy7M1, .opCopy8M1, .opCopy9M1, .opCopy10M1, .opCopy11M1, .opCopy12M1, .opCopy13M1, .opCopy14M1, .opCopy15M1, .opCopy16M1, .opCopy17M1, .opCopy18M1, .opCopyM2, .opCopy4M2, .opCopy5M2, .opCopy6M2, .opCopy7M2, .opCopy8M2, .opCopy9M2, .opCopy10M2, .opCopy11M2, .opCopy12M2, .opCopy13M2, .opCopy14M2, .opCopy15M2].map (fun i => .ok (i, [])) := by decide

theorem test_decode_opcodes_40 :
    [0x40, 0x41, 0x42, 0x43, 0x44, 0x45, 0x46, 0x47, 0x48, 0x49, 0x4A, 0x4B, 0x4C, 0x4D, 0x4E, 0x4F, 0x50, 0x51, 0x52, 0x53, 0x54, 0x55, 0x56, 0x57, 0x58, 0x59, 0x5A, 0x5B, 0x5C, 0x5D, 0x5E, 0x5F].map (fun b : Byte => decode .stream [b]) =
      [Instr.opCopy16M2, .opCopy17M2, .opCopy18M2, .opCopyM3, .opCopy4M3, .opCopy5M3, .opCopy6M3, .opCopy7M3, .opCopy8M3, .opCopy9M3, .opCopy10M3, .opCopy11M3, .opCopy12M3, .opCopy13M3, .opCopy14M3, .opCopy15M3, .opCopy16M3, .opCopy17M3, .opCopy18M3, .opCopyM4, .opCopy4M4, .opCopy5M4, .opCopy6M4, .opCopy7M4, .opCopy8M4, .opCopy9M4, .opCopy10M4, .opCopy11M4, .opCopy12M4, .opCopy13M4, .opCopy14M4, .opCopy15M4].map (fun i => .ok (i, [])) := by decide

theorem test_decode_opcodes_60 :
    [0x60, 0x61, 0x62, 0x63, 0x64, 0x65, 0x66, 0x67, 0x68, 0x69, 0x6A, 0x6B, 0x6C, 0x6D, 0x6E, 0x6F, 0x70, 0x71, 0x72, 0x73, 0x74, 0x75, 0x76, 0x77, 0x78, 0x79, 0x7A, 0x7B, 0x7C, 0x7D, 0x7E, 0x7F].map (fun b : Byte => decode .stream [b]) =
      [Instr.opCopy16M4, .opCopy17M4, .opCopy18M4, .opCopyM5, .opCopy4M5, .opCopy5M5, .opCopy6M5, .opCopy7M5, .opCopy8M5, .opCopy9M5, .opCopy10M5, .opCopy11M5, .opCopy12M5, .opCopy13M5, .opCopy14M5, .opCopy15M5, .opCopy16M5, .opCopy17M5, .opCopy18M5, .opCopyM6, .opCopy4M6, .opCopy5M6, .opCopy6M6, .opCopy7M6, .opCopy8M6, .opCopy9M6, .opCopy10M6, .opCopy11M6, .opCopy12M6, .opCopy13M6, .opCopy14M6, .opCopy15M6].map (fun i => .ok (i, [])) := by decide

theorem test_decode_opcodes_80 :
    [0x80, 0x81, 0x82, 0x83, 0x84, 0x85, 0x86, 0x87, 0x88, 0x89, 0x8A, 0x8B, 0x8C, 0x8D, 0x8E, 0x8F, 0x90, 0x91, 0x92, 0x93, 0x94, 0x95, 0x96, 0x97, 0x98, 0x99, 0x9A, 0x9B, 0x9C, 0x9D, 0x9E, 0x9F].map (fun b : Byte => decode .stream [b]) =
      [Instr.opCopy16M6, .opCopy17M6, .opCopy18M6, .opCopyM7, .opCopy4M7, .opCopy5M7, .opCopy6M7, .opCopy7M7, .opCopy8M7, .opCopy9M7, .opCopy10M7, .opCopy11M7, .opCopy12M7, .opCopy13M7, .opCopy14M7, .opCopy15M7, .opCopy16M7, .opCopy17M7, .opCopy18M7, .opCopyM8, .opCopy4M8, .opCopy5M8, .opCopy6M8, .opCopy7M8, .opCopy8M8, .opCopy9M8, .opCopy10M8, .opCopy11M8, .opCopy12M8, .opCopy13M8, .opCopy14M8, .opCopy15M8].map (fun i => .ok (i, [])) := by decide

theorem test_decode_opcodes_A0 :
    [0xA0, 0xA1, 0xA2, 0xA3, 0xA4, 0xA5, 0xA6, 0xA7, 0xA8, 0xA9, 0xAA, 0xAB, 0xAC, 0xAD, 0xAE, 0xAF, 0xB0, 0xB1, 0xB2, 0xB3, 0xB4, 0xB5, 0xB6, 0xB7, 0xB8, 0xB9, 0xBA, 0xBB, 0xBC, 0xBD, 0xBE, 0xBF].map (fun b : Byte => decode .stream [b]) =
      [Instr.opCopy16M8, .opCopy17M8, .opCopy18M8, .opAdd1Copy4M0, .opAdd1Copy5M0, .opAdd1Copy6M0, .opAdd2Copy4M0, .opAdd2Copy5M0, .opAdd2Copy6M0, .opAdd3Copy4M0, .opAdd3Copy5M0, .opAdd3Copy6M0, .opAdd4Copy4M0, .opAdd4Copy5M0, .opAdd4Copy6M0, .opAdd1Copy4M1, .opAdd1Copy5M1, .opAdd1Copy6M1, .opAdd2Copy4M1, .opAdd2Copy5M1, .opAdd2Copy6M1, .opAdd3Copy4M1, .opAdd3Copy5M1, .opAdd3Copy6M1, .opAdd4Copy4M1, .opAdd4Copy5M1, .opAdd4Copy6M1, .opAdd1Copy4M2, .opAdd1Copy5M2, .opAdd1Copy6M2, .opAdd2Copy4M2, .opAdd2Copy5M2].map (fun i => .ok (i, [])) := by decide

theorem test_decode_opcodes_C0 :
    [0xC0, 0xC1, 0xC2, 0xC3, 0xC4, 0xC5, 0xC6, 0xC7, 0xC8, 0xC9, 0xCA, 0xCB, 0xCC, 0xCD, 0xCE, 0xCF, 0xD0, 0xD1, 0xD2, 0xD3, 0xD4, 0xD5, 0xD6, 0xD7, 0xD8, 0xD9, 0xDA, 0xDB, 0xDC, 0xDD, 0xDE, 0xDF].map (fun b : Byte => decode .stream [b]) =
      [Instr.opAdd2Copy6M2, .opAdd3Copy4M2, .opAdd3Copy5M2, .opAdd3Copy6M2, .opAdd4Copy4M2, .opAdd4Copy5M2, .opAdd4Copy6M2, .opAdd1Copy4M3, .opAdd1Copy5M3, .opAdd1Copy6M3, .opAdd2Copy4M3, .opAdd2Copy5M3, .opAdd2Copy6M3, .opAdd3Copy4M3, .opAdd3Copy5M3, .opAdd3Copy6M3, .opAdd4Copy4M3, .opAdd4Copy5M3, .opAdd4Copy6M3, .opAdd1Copy4M4, .opAdd1Copy5M4, .opAdd1Copy6M4, .opAdd2Copy4M4, .opAdd2Copy5M4, .opAdd2Copy6M4, .opAdd3Copy4M4, .opAdd3Copy5M4, .opAdd3Copy6M4, .opAdd4Copy4M4, .opAdd4Copy5M4, .opAdd4Copy6M4, .opAdd1Copy4M5].map (fun i => .ok (i, [])) := by decide

theorem test_decode_opcodes_E0 :
    [0xE0, 0xE1, 0xE2, 0xE3, 0xE4, 0xE5, 0xE6, 0xE7, 0xE8, 0xE9, 0xEA, 0xEB, 0xEC, 0xED, 0xEE, 0xEF, 0xF0, 0xF1, 0xF2, 0xF3, 0xF4, 0xF5, 0xF6, 0xF7, 0xF8, 0xF9, 0xFA, 0xFB, 0xFC, 0xFD, 0xFE, 0xFF].map (fun b : Byte => decode .stream [b]) =
      [Instr.opAdd1Copy5M5, .opAdd1Copy6M5, .opAdd2Copy4M5, .opAdd2Copy5M5, .opAdd2Copy6M5, .opAdd3Copy4M5, .opAdd3Copy5M5, .opAdd3Copy6M5, .opAdd4Copy4M5, .opAdd4Copy5M5, .opAdd4Copy6M5, .opAdd1Copy4M6, .opAdd2Copy4M6, .opAdd3Copy4M6, .opAdd4Copy4M6, .opAdd1Copy4M7, .opAdd2Copy4M7, .opAdd3Copy4M7, .opAdd4Copy4M7, .opAdd1Copy4M8, .opAdd2Copy4M8, .opAdd3Copy4M8, .opAdd4Copy4M8, .opCopy4M0Add1, .opCopy4M1Add1, .opCopy4M2Add1, .opCopy4M3Add1, .opCopy4M4Add1, .opCopy4M5Add1, .opCopy4M6Add1, .opCopy4M7Add1, .opCopy4M8Add1].map (fun i => .ok (i, [])) := by decide

theorem test_decode_rejects :
    decode .command [0x05] = .error (.illegalCommand 0x05) ∧ decode .command [0x7E] = .error (.illegalCommand 0x7E) ∧
    decode .command [0x80] = .error (.illegalCommand 0x80) ∧ decode .command [0xFF] = .error (.illegalCommand 0xFF) ∧
    decode .command [] = .error .noBytes ∧ decode .stream [] = .error .noBytes := by decide

theorem test_table_words :
    decodeTableWord 8 0x23 = some .rdGet ∧ decodeTableWord 8 0x7F = some .reset ∧ decodeTableWord 8 0xA6 = some .opAdd2Copy4M0 ∧
    decodeTableWord 8 0x05 = some .opAdd4 := by decide

/-! ### The default code table against `opcode_table.json`: inst1, size1, mode1, inst2, size2, mode2 -/

/-- A row as the table's six fields. -/
def rowFields (op : Nat) : List Nat :=
  [(firstHalf defaultCt op).typ.toNat, (firstHalf defaultCt op).size.toNat, (firstHalf defaultCt op).mode.toNat,
    (secondHalf defaultCt op).typ.toNat, (secondHalf defaultCt op).size.toNat, (secondHalf defaultCt op).mode.toNat]

theorem test_default_rows_00 :
    (List.range' 0 32).map rowFields =
      [[2, 0, 0, 0, 0, 0], [1, 0, 0, 0, 0, 0], [1, 1, 0, 0, 0, 0], [1, 2, 0, 0, 0, 0], [1, 3, 0, 0, 0, 0], [1, 4, 0, 0, 0, 0],
       [1, 5, 0, 0, 0, 0], [1, 6, 0, 0, 0, 0], [1, 7, 0, 0, 0, 0], [1, 8, 0, 0, 0, 0], [1, 9, 0, 0, 0, 0], [1, 10, 0, 0, 0, 0],
       [1, 11, 0, 0, 0, 0], [1, 12, 0, 0, 0, 0], [1, 13, 0, 0, 0, 0], [1, 14, 0, 0, 0, 0], [1, 15, 0, 0, 0, 0], [1, 16, 0, 0, 0, 0],
       [1, 17, 0, 0, 0, 0], [3, 0, 0, 0, 0, 0], [3, 4, 0, 0, 0, 0], [3, 5, 0, 0, 0, 0], [3, 6, 0, 0, 0, 0], [3, 7, 0, 0, 0, 0],
       [3, 8, 0, 0, 0, 0], [3, 9, 0, 0, 0, 0], [3, 10, 0, 0, 0, 0], [3, 11, 0, 0, 0, 0], [3, 12, 0, 0, 0, 0], [3, 13, 0, 0, 0, 0],
       [3, 14, 0, 0, 0, 0], [3, 15, 0, 0, 0, 0]] := by decide +kernel

theorem test_default_rows_20 :
    (List.range' 32 32).map rowFields =
      [[3, 16, 0, 0, 0, 0], [3, 17, 0, 0, 0, 0], [3, 18, 0, 0, 0, 0], [3, 0, 1, 0, 0, 0], [3, 4, 1, 0, 0, 0], [3, 5, 1, 0, 0, 0],
       [3, 6, 1, 0, 0, 0], [3, 7, 1, 0, 0, 0], [3, 8, 1, 0, 0, 0], [3, 9, 1, 0, 0, 0], [3, 10, 1, 0, 0, 0], [3, 11, 1, 0, 0, 0],
       [3, 12, 1, 0, 0, 0], [3, 13, 1, 0, 0, 0], [3, 14, 1, 0, 0, 0], [3, 15, 1, 0, 0, 0], [3, 16, 1, 0, 0, 0], [3, 17, 1, 0, 0, 0],
       [3, 18, 1, 0, 0, 0], [3, 0, 2, 0, 0, 0], [3, 4, 2, 0, 0, 0], [3, 5, 2, 0, 0, 0], [3, 6, 2, 0, 0, 0], [3, 7, 2, 0, 0, 0],
       [3, 8, 2, 0, 0, 0], [3, 9, 2, 0, 0, 0], [3, 10, 2, 0, 0, 0], [3, 11, 2, 0, 0, 0], [3, 12, 2, 0, 0, 0], [3, 13, 2, 0, 0, 0],
       [3, 14, 2, 0, 0, 0], [3, 15, 2, 0, 0, 0]] := by decide +kernel

theorem test_default_rows_40 :
    (List.range' 64 32).map rowFields =
      [[3, 16, 2, 0, 0, 0], [3, 17, 2, 0, 0, 0], [3, 18, 2, 0, 0, 0], [3, 0, 3, 0, 0, 0], [3, 4, 3, 0, 0, 0], [3, 5, 3, 0, 0, 0],
       [3, 6, 3, 0, 0, 0], [3, 7, 3, 0, 0, 0], [3, 8, 3, 0, 0, 0], [3, 9, 3, 0, 0, 0], [3, 10, 3, 0, 0, 0], [3, 11, 3, 0, 0, 0],
       [3, 12, 3, 0, 0, 0], [3, 13, 3, 0, 0, 0], [3, 14, 3, 0, 0, 0], [3, 15, 3, 0, 0, 0], [3, 16, 3, 0, 0, 0], [3, 17, 3, 0, 0, 0],
       [3, 18, 3, 0, 0, 0], [3, 0, 4, 0, 0, 0], [3, 4, 4, 0, 0, 0], [3, 5, 4, 0, 0, 0], [3, 6, 4, 0, 0, 0], [3, 7, 4, 0, 0, 0],
       [3, 8, 4, 0, 0, 0], [3, 9, 4, 0, 0, 0], [3, 10, 4, 0, 0, 0], [3, 11, 4, 0, 0, 0], [3, 12, 4, 0, 0, 0], [3, 13, 4, 0, 0, 0],
       [3, 14, 4, 0, 0, 0], [3, 15, 4, 0, 0, 0]] := by decide +kernel

theorem test_default_rows_60 :
    (List.range' 96 32).map rowFields =
      [[3, 16, 4, 0, 0, 0], [3, 17, 4, 0, 0, 0], [3, 18, 4, 0, 0, 0], [3, 0, 5, 0, 0, 0], [3, 4, 5, 0, 0, 0], [3, 5, 5, 0, 0, 0],
       [3, 6, 5, 0, 0, 0], [3, 7, 5, 0, 0, 0], [3, 8, 5, 0, 0, 0], [3, 9, 5, 0, 0, 0], [3, 10, 5, 0, 0, 0], [3, 11, 5, 0, 0, 0],
       [3, 12, 5, 0, 0, 0], [3, 13, 5, 0, 0, 0], [3, 14, 5, 0, 0, 0], [3, 15, 5, 0, 0, 0], [3, 16, 5, 0, 0, 0], [3, 17, 5, 0, 0, 0],
       [3, 18, 5, 0, 0, 0], [3, 0, 6, 0, 0, 0], [3, 4, 6, 0, 0, 0], [3, 5, 6, 0, 0, 0], [3, 6, 6, 0, 0, 0], [3, 7, 6, 0, 0, 0],
       [3, 8, 6, 0, 0, 0], [3, 9, 6, 0, 0, 0], [3, 10, 6, 0, 0, 0], [3, 11, 6, 0, 0, 0], [3, 12, 6, 0, 0, 0], [3, 13, 6, 0, 0, 0],
       [3, 14, 6, 0, 0, 0], [3, 15, 6, 0, 0, 0]] := by decide +kernel

theorem test_default_rows_80 :
    (List.range' 128 32).map rowFields =
      [[3, 16, 6, 0, 0, 0], [3, 17, 6, 0, 0, 0], [3, 18, 6, 0, 0, 0], [3, 0, 7, 0, 0, 0], [3, 4, 7, 0, 0, 0], [3, 5, 7, 0, 0, 0],
       [3, 6, 7, 0, 0, 0], [3, 7, 7, 0, 0, 0], [3, 8, 7, 0, 0, 0], [3, 9, 7, 0, 0, 0], [3, 10, 7, 0, 0, 0], [3, 11, 7, 0, 0, 0],
       [3, 12, 7, 0, 0, 0], [3, 13, 7, 0, 0, 0], [3, 14, 7, 0, 0, 0], [3, 15, 7, 0, 0, 0], [3, 16, 7, 0, 0, 0], [3, 17, 7, 0, 0, 0],
       [3, 18, 7, 0, 0, 0], [3, 0, 8, 0, 0, 0], [3, 4, 8, 0, 0, 0], [3, 5, 8, 0, 0, 0], [3, 6, 8, 0, 0, 0], [3, 7, 8, 0, 0, 0],
       [3, 8, 8, 0, 0, 0], [3, 9, 8, 0, 0, 0], [3, 10, 8, 0, 0, 0], [3, 11, 8, 0, 0, 0], [3, 12, 8, 0, 0, 0], [3, 13, 8, 0, 0, 0],
       [3, 14, 8, 0, 0, 0], [3, 15, 8, 0, 0, 0]] := by decide +kernel

theorem test_default_rows_A0 :
    (List.range' 160 32).map rowFields =
      [[3, 16, 8, 0, 0, 0], [3, 17, 8, 0, 0, 0], [3, 18, 8, 0, 0, 0], [1, 1, 0, 3, 4, 0], [1, 1, 0, 3, 5, 0], [1, 1, 0, 3, 6, 0],
       [1, 2, 0, 3, 4, 0], [1, 2, 0, 3, 5, 0], [1, 2, 0, 3, 6, 0], [1, 3, 0, 3, 4, 0], [1, 3, 0, 3, 5, 0], [1, 3, 0, 3, 6, 0],
       [1, 4, 0, 3, 4, 0], [1, 4, 0, 3, 5, 0], [1, 4, 0, 3, 6, 0], [1, 1, 0, 3, 4, 1], [1, 1, 0, 3, 5, 1], [1, 1, 0, 3, 6, 1],
       [1, 2, 0, 3, 4, 1], [1, 2, 0, 3, 5, 1], [1, 2, 0, 3, 6, 1], [1, 3, 0, 3, 4, 1], [1, 3, 0, 3, 5, 1], [1, 3, 0, 3, 6, 1],
       [1, 4, 0, 3, 4, 1], [1, 4, 0, 3, 5, 1], [1, 4, 0, 3, 6, 1], [1, 1, 0, 3, 4, 2], [1, 1, 0, 3, 5, 2], [1, 1, 0, 3, 6, 2],
       [1, 2, 0, 3, 4, 2], [1, 2, 0, 3, 5, 2]] := by decide +kernel

theorem test_default_rows_C0 :
    (List.range' 192 32).map rowFields =
      [[1, 2, 0, 3, 6, 2], [1, 3, 0, 3, 4, 2], [1, 3, 0, 3, 5, 2], [1, 3, 0, 3, 6, 2], [1, 4, 0, 3, 4, 2], [1, 4, 0, 3, 5, 2],
       [1, 4, 0, 3, 6, 2], [1, 1, 0, 3, 4, 3], [1, 1, 0, 3, 5, 3], [1, 1, 0, 3, 6, 3], [1, 2, 0, 3, 4, 3], [1, 2, 0, 3, 5, 3],
       [1, 2, 0, 3, 6, 3], [1, 3, 0, 3, 4, 3], [1, 3, 0, 3, 5, 3], [1, 3, 0, 3, 6, 3], [1, 4, 0, 3, 4, 3], [1, 4, 0, 3, 5, 3],
       [1, 4, 0, 3, 6, 3], [1, 1, 0, 3, 4, 4], [1, 1, 0, 3, 5, 4], [1, 1, 0, 3, 6, 4], [1, 2, 0, 3, 4, 4], [1, 2, 0, 3, 5, 4],
       [1, 2, 0, 3, 6, 4], [1, 3, 0, 3, 4, 4], [1, 3, 0, 3, 5, 4], [1, 3, 0, 3, 6, 4], [1, 4, 0, 3, 4, 4], [1, 4, 0, 3, 5, 4],
       [1, 4, 0, 3, 6, 4], [1, 1, 0, 3, 4, 5]] := by decide +kernel

theorem test_default_rows_E0 :
    (List.range' 224 32).map rowFields =
      [[1, 1, 0, 3, 5, 5], [1, 1, 0, 3, 6, 5], [1, 2, 0, 3, 4, 5], [1, 2, 0, 3, 5, 5], [1, 2, 0, 3, 6, 5], [1, 3, 0, 3, 4, 5],
       [1, 3, 0, 3, 5, 5], [1, 3, 0, 3, 6, 5], [1, 4, 0, 3, 4, 5], [1, 4, 0, 3, 5, 5], [1, 4, 0, 3, 6, 5], [1, 1, 0, 3, 4, 6],
       [1, 2, 0, 3, 4, 6], [1, 3, 0, 3, 4, 6], [1, 4, 0, 3, 4, 6], [1, 1, 0, 3, 4, 7], [1, 2, 0, 3, 4, 7], [1, 3, 0, 3, 4, 7],
       [1, 4, 0, 3, 4, 7], [1, 1, 0, 3, 4, 8], [1, 2, 0, 3, 4, 8], [1, 3, 0, 3, 4, 8], [1, 4, 0, 3, 4, 8], [3, 4, 0, 1, 1, 0],
       [3, 4, 1, 1, 1, 0], [3, 4, 2, 1, 1, 0], [3, 4, 3, 1, 1, 0], [3, 4, 4, 1, 1, 0], [3, 4, 5, 1, 1, 0], [3, 4, 6, 1, 1, 0],
       [3, 4, 7, 1, 1, 0], [3, 4, 8, 1, 1, 0]] := by decide +kernel

/-! ### WellFormed: one ill-formed line for each check (R302, R303, R324) -/

theorem test_wf_opcode_is_no_command : AsmLine.wellFormed (.command .opRun []) = false := by decide

theorem test_wf_too_many_operands : AsmLine.wellFormed (.command .nop [0]) = false := by decide

theorem test_wf_operand_too_wide : AsmLine.wellFormed (.command .venc64 [2 ^ 64]) = false := by decide

theorem test_wf_byte_too_large : AsmLine.wellFormed (.inBytes [0xD6, 256]) = false := by decide

theorem test_wf_not_ascii : AsmLine.wellFormed (.inStr [0x61, 128]) = false := by decide

theorem test_wf_near_too_wide : AsmLine.wellFormed (.ctLoadCustom (2 ^ 64) 3 (List.replicate 1536 0)) = false := by decide

theorem test_wf_same_too_wide : AsmLine.wellFormed (.ctLoadCustom 4 (2 ^ 64) (List.replicate 1536 0)) = false := by decide +kernel

theorem test_wf_table_length : AsmLine.wellFormed (.ctLoadCustom 4 3 (List.replicate 1535 0)) = false := by decide +kernel

theorem test_wf_table_byte : AsmLine.wellFormed (.ctLoadCustom 4 3 (256 :: List.replicate 1535 0)) = false := by decide +kernel

theorem test_wf_register_too_wide : AsmLine.wellFormed (.set (2 ^ 64) 0) = false ∧ AsmLine.wellFormed (.get (2 ^ 64)) = false := by decide

theorem test_wf_value_too_wide : AsmLine.wellFormed (.set 1 (2 ^ 64)) = false := by decide

theorem test_wf_good_lines :
    AsmLine.wellFormed (.command .wrOutput [1, 4, 0, 2 ^ 64 - 1]) = true ∧ AsmLine.wellFormed (.inStr [0x61, 0x62]) = true ∧
    AsmLine.wellFormed (.ctLoadCustom 4 3 (List.replicate 1536 0)) = true ∧ AsmLine.wellFormed (.set 0 7) = true := by decide +kernel

/-- The expansion of two lines into host accesses (R303; 95 P1 step 2, P2 step 1). -/
theorem test_expand :
    expand (.inStr [0x61, 0x62]) = [.writeArg 0 0x61, .writeCmd 0x72, .writeArg 0 0x62, .writeCmd 0x72] ∧
    expand (.set 0 7) = [.writeArg 0 0, .writeArg 1 7, .writeCmd 0x71] := by decide

/-! ### Small states -/

/-- A state with its four arguments. -/
def withArgs (s : State) (a b c d : Nat) : State := { s with arg := { r0 := w64 a, r1 := w64 b, r2 := w64 c, r3 := w64 d } }

/-- The state after one command with four arguments. -/
def after (i : Instr) (a b c d : Nat) (s : State) : State :=
  match exec i (withArgs s a b c d) with
  | .next t => t
  | _ => s

/-- RES0..RES3 as numbers. -/
def results (s : State) : List Nat := [s.res.r0.toNat, s.res.r1.toNat, s.res.r2.toNat, s.res.r3.toNat]

/-- The reset state with these bytes in IN. -/
def withIn (bytes : List Byte) : State := { State.reset with inp := bytes }

/-- P1's file (95, section 3). -/
def file1 : List Byte := [0xD6, 0xC3, 0xC4, 0x00, 0x00, 0x01, 0x04, 0x00, 0x09, 0x06, 0x00, 0x02, 0x01, 0x01, 0x61, 0x62, 0xA6, 0x00]

/-- P1's W registers. -/
def window1 : WindowRegs :=
  { indicator := 1, srcLen := 4, srcPos := 0, deltaLen := 9, targetSize := 6, deltaInd := 0, dataLen := 2, instLen := 1, addrLen := 1,
    checksum := 0, dataStart := 14, instStart := 16, addrStart := 17, windowEnd := 18, layout := 0 }

/-- P1's decoder before WH_PARSE: a file header read, DICT_SIZE = 4. -/
def opened1 : State := { State.reset with inp := file1, dictSize := 4, decOpen := true }

/-- P1's decoder after WH_PARSE. -/
def parsed1 : State := { opened1 with winActive := true, w := window1 }

/-- P1's decoder after RD_START 16, 17. -/
def reading1 : State := { parsed1 with readerActive := true, rdPos := 16, rdEnd := 17 }

/-- P1's decoder with both instructions read. -/
def read1 : State := { reading1 with rdPos := 17, lastInst := some { typ := 3, size := 4, mode := 0 } }

/-- A reader over these instruction bytes with a limit: the setup of 95, section 2.4. -/
def stream (bytes : List Byte) (lim : Nat) : State :=
  let n := bytes.length
  { State.reset with
    inp := [0xD6, 0xC3, 0xC4, 0x00, 0x00, 0x00, BitVec.ofNat 8 (5 + n), 0x00, 0x00, 0x00, BitVec.ofNat 8 n, 0x00] ++ bytes
    decOpen := true, winActive := true, readerActive := true, rdPos := 12, rdEnd := w64 (12 + lim)
    w := { WindowRegs.reset with
      deltaLen := w64 (5 + n), instLen := w64 n, dataStart := 12, instStart := 12, addrStart := w64 (12 + n), windowEnd := w64 (12 + n) } }

/-- What one RD_GET shows: STATUS, the record, RD_POS relative to 12, PENDING. -/
def shown (s : State) : Status × Option InstRecord × Nat × Option Byte := (s.status, s.lastInst, s.rdPos.toNat - 12, s.pendingOp)

/-- An open encoder with 20 bytes in IN and an empty window. -/
def encoder : State := { State.reset with encOpen := true, inp := List.replicate 20 0x61 }

/-- The encoder with INSTS holding these bytes, the last opcode open for pairing at `last`. -/
def midWindow (insts : List Byte) (last : Option Nat) (n target : Nat) : State :=
  { encoder with insts := insts, wrLast := last, wrInstCount := w64 n, wrTargetLen := w64 target }

/-- P1's encoder before WR_OUTPUT. -/
def ready1 : State :=
  { State.reset with
    encOpen := true, inp := [0x61, 0x62], out := [0xD6, 0xC3, 0xC4, 0x00, 0x00], data := [0x61, 0x62], insts := [0xA6], addrs := [0x00]
    wrInstCount := 2, wrTargetLen := 6 }

/-! ### Control commands (95, section 2.7) -/

theorem test_nop : (after .nop 0 0 0 0 { read1 with status := .malformed }).status = .ok ∧
    (after .nop 0 0 0 0 { read1 with res := { r0 := 9, r1 := 8, r2 := 7, r3 := 6 } }).res = { r0 := 9, r1 := 8, r2 := 7, r3 := 6 } := by
  decide +kernel

theorem test_reg_read :
    (after .regRead 0x00 0 0 0 State.reset).res.r0 = 4 ∧ (after .regRead 0x06 0 0 0 State.reset).res.r0 = 8 ∧
    (after .regRead 0x09 0 0 0 State.reset).res.r0 = 1 ∧ (after .regRead 0x07 0 0 0 State.reset).status = .illegal ∧
    (after .regRead 0x08 0 0 0 { opened1 with status := .malformed }).res.r0 = 2 ∧
    (after .regRead (2 ^ 63 + 4) 0 0 0 State.reset).status = .illegal := by decide +kernel

theorem test_reg_read_window :
    (after .regRead 0x2B 0 0 0 parsed1).res.r0 = 16 ∧ (after .regRead 0x2D 0 0 0 parsed1).res.r0 = 18 ∧
    (after .regRead 0x0A 0 0 0 parsed1).res.r0 = 18 ∧ (after .regRead 0x2F 0 0 0 parsed1).status = .illegal := by decide +kernel

theorem test_reg_write :
    (after .regWrite 0x09 0 0 0 State.reset).status = .illegal ∧ (after .regWrite 0x00 0xFF 0 0 State.reset).ctrl = 7 ∧
    (after .regWrite 0x02 (2 ^ 31) 0 0 State.reset).status = .outOfRange ∧ (after .regWrite 0x01 4 0 0 State.reset).dictSize = 4 := by
  decide +kernel

theorem test_reg_write_frozen :
    (after .regWrite 0x01 4 0 0 opened1).status = .stateError ∧ (after .regWrite 0x00 0x4 0 0 opened1).status = .ok ∧
    (after .regWrite 0x00 0x0 0 0 opened1).status = .stateError := by decide +kernel

theorem test_in_append :
    (after .inAppend 0x1D6 0 0 0 State.reset).inp = [0xD6] ∧ (after .inAppend 0x1D6 0 0 0 State.reset).res.r0 = 1 ∧
    (after .inAppend 1 0 0 0 { State.resetWith { inSize := 1, wrCapacity := 1 } with inp := [0xD6] }).status = .outOfRange := by
  decide +kernel

theorem test_reset :
    (after .reset 1 2 3 4 read1).flags = 0x001 ∧ (after .reset 1 2 3 4 read1).inp = [] ∧ (after .reset 1 2 3 4 ready1).out = [] ∧
    results (after .reset 1 2 3 4 read1) = [0, 0, 0, 0] ∧ (after .reset 1 2 3 4 read1).dictSize = 0 := by decide +kernel

/-! ### Varints (95, sections 1.1, 1.2, 2.1) -/

theorem test_venc32 :
    (after .venc32 300 0 0 0 State.reset).out = [0x82, 0x2C] ∧ (after .venc32 300 0 0 0 State.reset).res.r0 = 2 ∧
    (after .venc32 127 0 0 0 State.reset).out = [0x7F] ∧ (after .venc32 128 0 0 0 State.reset).out = [0x81, 0x00] ∧
    (after .venc32 16384 0 0 0 State.reset).out = [0x81, 0x80, 0x00] ∧ (after .venc32 0x100000005 0 0 0 State.reset).out = [0x05] ∧
    (after .venc32 0xFFFFFFFF 0 0 0 State.reset).out = [0x8F, 0xFF, 0xFF, 0xFF, 0x7F] := by decide +kernel

theorem test_venc64 :
    (after .venc64 (2 ^ 32) 0 0 0 State.reset).out = [0x90, 0x80, 0x80, 0x80, 0x00] ∧
    (after .venc64 (2 ^ 63 - 1) 0 0 0 State.reset).out = [0xFF, 0xFF, 0xFF, 0xFF, 0xFF, 0xFF, 0xFF, 0xFF, 0x7F] ∧
    (after .venc64 (2 ^ 63) 0 0 0 State.reset).status = .outOfRange ∧ (after .venc64 (2 ^ 63) 0 0 0 State.reset).out = [] := by
  decide +kernel

theorem test_vdec32 :
    results (after .vdec32 0 2 0 0 (withIn [0x80, 0x01])) = [1, 2, 0, 0] ∧
    results (after .vdec32 0 5 0 0 (withIn [0x8F, 0xFF, 0xFF, 0xFF, 0x7F])) = [4294967295, 5, 0, 0] ∧
    (after .vdec32 0 5 0 0 (withIn [0x90, 0x80, 0x80, 0x80, 0x00])).status = .malformed ∧
    (after .vdec32 0 6 0 0 (withIn [0x81, 0x80, 0x80, 0x80, 0x80, 0x00])).status = .malformed ∧
    (after .vdec32 0 6 0 0 (withIn [0x80, 0x80, 0x80, 0x80, 0x80, 0x00])).status = .malformed := by decide +kernel

theorem test_vdec32_limits :
    (after .vdec32 0 5 0 0 (withIn [0x80, 0x80, 0x80, 0x80, 0x80])).status = .truncated ∧
    (after .vdec32 1 0 0 0 (withIn [0x01])).status = .outOfRange ∧ (after .vdec32 0 9 0 0 (withIn (List.replicate 5 0))).status = .outOfRange ∧
    (after .vdec32 2 2 0 0 (withIn [0x01, 0x02])).status = .truncated ∧
    (after .vdec32 0 5 0 0 (withIn [0x90, 0x80, 0x80, 0x80, 0x00])).flags = 0x001 := by decide +kernel

theorem test_vdec64 :
    results (after .vdec64 0 5 0 0 (withIn [0x90, 0x80, 0x80, 0x80, 0x00])) = [4294967296, 5, 0, 0] ∧
    (after .vdec64 0 6 0 0 (withIn [0x81, 0x80, 0x80, 0x80, 0x80, 0x00])).res.r0 = 34359738368 ∧
    results (after .vdec64 0 9 0 0 (withIn (List.replicate 8 0xFF ++ [0x7F]))) = [2 ^ 63 - 1, 9, 0, 0] ∧
    (after .vdec64 0 9 0 0 (withIn (List.replicate 9 0x80))).status = .truncated ∧
    (after .vdec64 0 10 0 0 (withIn (List.replicate 9 0x80 ++ [0x01]))).status = .malformed ∧
    (after .vdec64 0 10 0 0 (withIn (0x81 :: List.replicate 8 0x80 ++ [0x00]))).status = .malformed := by decide +kernel

/-! ### The code table (95, sections 2.2, 2.3, P5) -/

theorem test_ct_load_default :
    (after .ctLoadDefault 0 0 0 0 reading1).status = .stateError ∧
    (after .ctLoadDefault 0 0 0 0 { State.reset with ct := ctSet defaultCt 2 18 0, nearSize := 2, tableValid := false }).ct = [] ∧
    (after .ctLoadDefault 0 0 0 0 { State.reset with nearSize := 2, sameSize := 1, tableValid := false }).maxMode = 8 := by decide +kernel

theorem test_ct_set_cache :
    (after .ctSetCache 4 3 0 0 State.reset).res.r0 = 8 ∧ (after .ctSetCache 4 3 0 0 State.reset).flags = 0 ∧
    (after .ctSetCache 200 55 0 0 State.reset).status = .outOfRange ∧ (after .ctSetCache 254 0 0 0 State.reset).res.r0 = 255 ∧
    (after .ctSetCache 2 1 0 0 (midWindow [0x01, 0x11] (some 0) 1 17)).status = .stateError := by decide +kernel

theorem test_ct_write :
    (after .ctWrite 2 0 0 0 State.reset).ct = [] ∧ (after .ctWrite 2 0 0 0 State.reset).flags = 0 ∧
    (after .ctWrite 0 0 256 0 State.reset).status = .outOfRange ∧ (after .ctWrite 0 0 256 0 State.reset).flags = 1 ∧
    (firstHalf (after .ctWrite 2 18 0 0 State.reset).ct 18).size = 0 ∧ (after .ctWrite 6 0 0 0 State.reset).status = .illegal := by
  decide +kernel

theorem test_ct_read :
    (after .ctRead 0 0 0 0 State.reset).res.r0 = 2 ∧ (after .ctRead 3 163 0 0 State.reset).res.r0 = 4 ∧
    (after .ctRead 6 0 0 0 State.reset).status = .illegal ∧ (after .ctRead 0 256 0 0 State.reset).status = .outOfRange := by decide +kernel

theorem test_ct_commit :
    (after .ctCommit 0 0 0 0 { State.reset with ct := ctSet defaultCt 2 18 0, tableValid := false }).flags = 0x001 ∧
    (after .ctCommit 0 0 0 0 { State.reset with ct := ctSet defaultCt 2 18 0, tableValid := false }).first.length = 162 ∧
    (after .ctCommit 0 0 0 0 { State.reset with ct := ctSet defaultCt 2 18 0, tableValid := false }).second.length = 93 := by decide +kernel

theorem test_ct_commit_malformed :
    (after .ctCommit 0 0 0 0 { State.reset with ct := ctSet defaultCt 1 0 5, tableValid := false }).status = .malformed ∧
    (after .ctCommit 0 0 0 0 { State.reset with ct := ctSet defaultCt 4 2 1, tableValid := false }).status = .malformed ∧
    (after .ctCommit 0 0 0 0 { State.reset with ct := ctSet defaultCt 2 19 3, tableValid := false }).status = .malformed ∧
    (after .ctCommit 0 0 0 0 { State.reset with nearSize := 0, sameSize := 0, tableValid := false }).status = .malformed := by
  decide +kernel

/-- STATUS, RES0 and RES1 of MAP_FIRST on the default table. -/
def mapFirst (t m s : Nat) : Status × Nat × Nat :=
  let u := after .mapFirst t m s 0 State.reset
  (u.status, u.res.r0.toNat, u.res.r1.toNat)

theorem test_map_first :
    mapFirst 1 0 0 = (.ok, 1, 1) ∧ mapFirst 1 0 17 = (.ok, 18, 0) ∧ mapFirst 1 0 300 = (.ok, 1, 1) ∧ mapFirst 2 0 5 = (.ok, 0, 1) ∧
    mapFirst 3 0 18 = (.ok, 34, 0) ∧ mapFirst 3 0 3 = (.ok, 19, 1) ∧ mapFirst 3 8 4 = (.ok, 148, 0) ∧ mapFirst 3 5 10 = (.ok, 106, 0) := by
  decide +kernel

theorem test_map_first_refused :
    (mapFirst 0 0 1).1 = .malformed ∧ (mapFirst 1 1 1).1 = .malformed ∧ (mapFirst 3 9 4).1 = .malformed ∧
    (mapFirst 1 0 (2 ^ 31)).1 = .outOfRange ∧ (after .mapFirst 1 0 17 0 { State.reset with tableValid := false }).status = .stateError := by
  decide +kernel

/-- STATUS, RES0 and RES2 of MAP_SECOND on the default table. -/
def mapSecond (f t m s : Nat) : Status × Nat × Nat :=
  let u := after .mapSecond f t m s State.reset
  (u.status, u.res.r0.toNat, u.res.r2.toNat)

theorem test_map_second :
    mapSecond 3 3 0 4 = (.ok, 166, 1) ∧ mapSecond 3 3 0 7 = (.ok, 0, 0) ∧ mapSecond 5 3 6 4 = (.ok, 238, 1) ∧
    mapSecond 20 1 0 1 = (.ok, 247, 1) ∧ mapSecond 148 1 0 1 = (.ok, 255, 1) := by decide +kernel

theorem test_map_second_none :
    mapSecond 5 3 6 5 = (.ok, 0, 0) ∧ mapSecond 1 3 0 4 = (.ok, 0, 0) ∧ (mapSecond 256 1 0 1).1 = .outOfRange := by decide +kernel

/-! ### The reader (95, section 2.4, P1) -/

theorem test_rd_start :
    (after .rdStart 16 17 0 0 parsed1).flags = 0x00F ∧ (after .rdStart 16 18 0 0 parsed1).status = .outOfRange ∧
    (after .rdStart 15 17 0 0 parsed1).status = .outOfRange ∧
    (after .rdStart 16 17 0 0 { parsed1 with sessionFailed := true }).status = .sessionFailed := by decide +kernel

theorem test_rd_extend :
    (after .rdExtend 17 0 0 0 { reading1 with rdEnd := 16 }).rdEnd = 17 ∧
    (after .rdExtend 13 0 0 0 (stream [0x03, 0x02] 2)).status = .outOfRange := by decide +kernel

theorem test_rd_seek :
    (after .rdSeek 13 0 0 0 { stream [0x03, 0x02] 2 with rdPos := 14 }).status = .outOfRange ∧
    (after .rdSeek 14 0 0 0 (stream [0x03, 0x02] 2)).rdPos = 14 := by decide +kernel

theorem test_rd_get :
    [stream [0x03] 1, stream [0x01, 0x05] 2, stream [0x01] 1, stream [0xFF] 1,
      { stream [0xA6] 1 with rdPos := 13, pendingOp := some 0xA6 }].map (fun s => shown (after .rdGet 0 0 0 0 s)) =
      [(.ok, some { typ := 1, size := 2, mode := 0 }, 1, none), (.ok, some { typ := 1, size := 5, mode := 0 }, 2, none),
       (.truncated, none, 0, none), (.ok, some { typ := 3, size := 4, mode := 8 }, 1, some 0xFF),
       (.ok, some { typ := 3, size := 4, mode := 0 }, 1, none)] ∧
    (after .rdGet 0 0 0 0 (stream [0x01, 0x88, 0x80, 0x80, 0x80, 0x00] 6)).flags = 0x04F := by decide +kernel

/-- The custom table of 95, section 2.4: row 2 a bare NOOP, row 3 NOOP | ADD 2. -/
def noopTable : List Host.Cell := ctSet (ctSet (ctSet (ctSet (ctSet (ctSet defaultCt 0 2 0) 2 2 0) 0 3 0) 2 3 0) 1 3 1) 3 3 2

theorem test_rd_get_noop :
    shown (after .rdGet 0 0 0 0 { stream [0x02, 0x03] 2 with ct := noopTable }) = (.ok, some { typ := 1, size := 2, mode := 0 }, 2, none) ∧
    shown (after .rdGet 0 0 0 0 { stream [0x02] 1 with ct := noopTable }) = (.truncated, none, 1, none) ∧
    shown (after .rdGet 0 0 0 0 { stream [0x02, 0x02, 0x01] 3 with ct := noopTable }) = (.truncated, none, 0, none) ∧
    shown (after .rdGet 0 0 0 0 { stream [0x02, 0x01, 0x07] 3 with ct := noopTable }) =
      (.ok, some { typ := 1, size := 7, mode := 0 }, 3, none) := by decide +kernel

theorem test_rd_unget :
    (after .rdUnget 0 0 0 0 read1).pushbackInst = some { typ := 3, size := 4, mode := 0 } ∧ (after .rdUnget 0 0 0 0 read1).flags = 0x10F ∧
    (after .rdUnget 0 0 0 0 reading1).status = .stateError := by decide +kernel

/-- Opcode rows as the RD_GET that reads them (R320, R321; 95 P1 step 6, section 2.4). -/
theorem test_opcode_rows :
    results (after .opAdd2Copy4M0 0 0 0 0 reading1) = [1, 2, 0, 17] ∧ (after .opAdd2Copy4M0 0 0 0 0 reading1).flags = 0x28F ∧
    shown (after .opAdd1Copy4M6 0 0 0 0 (stream [0xEB] 1)) = (.ok, some { typ := 1, size := 1, mode := 0 }, 1, some 0xEB) ∧
    shown (after .opCopyM0 0 0 0 0 (stream [0x13, 0x87, 0xFF, 0xFF, 0xFF, 0x7F] 6)) =
      (.ok, some { typ := 3, size := 2147483647, mode := 0 }, 6, none) := by decide +kernel

/-! ### The writer (95, section 2.5, P1, P2) -/

theorem test_wr_add :
    (after .wrAdd 0 18 0 0 encoder).insts = [0x01, 0x12] ∧ (after .wrAdd 0 17 0 0 encoder).insts = [0x12] ∧
    (after .wrAdd 0 0 0 0 encoder).insts = [0x01, 0x00] ∧ (after .wrAdd 0 1 0 0 (midWindow [0x14] (some 0) 1 4)).insts = [0xF7] ∧
    (after .wrAdd 0 2 0 0 (midWindow [0x14] (some 0) 1 4)).insts = [0x14, 0x03] := by decide +kernel

theorem test_wr_add_refused :
    (after .wrAdd 0 1 0 0 State.reset).status = .stateError ∧
    (after .wrAdd 0 3 0 0 { encoder with inp := [0x61, 0x62] }).status = .outOfRange := by decide +kernel

theorem test_wr_run :
    (after .wrRun 0x41 10 0 0 { encoder with ctrl := 7 }).insts = [0x00, 0x0A, 0x41] ∧
    (after .wrRun 0x41 1 0 0 encoder).data = [0x41] ∧ (after .wrRun 256 1 0 0 encoder).status = .outOfRange := by decide +kernel

theorem test_wr_copy :
    (after .wrCopy 300 1 70000 0 encoder).insts = [0x23, 0x82, 0x2C] ∧ (after .wrCopy 300 1 70000 0 encoder).addrs = [0x84, 0xA2, 0x70] ∧
    (after .wrCopy 4 7 200 0 encoder).insts = [0x84] ∧ (after .wrCopy 4 7 200 0 encoder).addrs = [0xC8] ∧
    (after .wrCopy 6 0 5 0 (midWindow [0x02] (some 0) 1 1)).insts = [0xA5] ∧
    (after .wrCopy 4 0 1 0 (midWindow [0x06] (some 0) 1 5)).insts = [0x06, 0x14] := by decide +kernel

theorem test_wr_copy_refused :
    (after .wrCopy 4 9 0 0 encoder).status = .malformed ∧ (after .wrCopy 4 6 256 0 encoder).status = .outOfRange ∧
    (after .wrCopy 4 0 (2 ^ 31) 0 encoder).status = .outOfRange := by decide +kernel

theorem test_wr_output :
    (after .wrOutput 1 4 0 0 ready1).out = file1 ∧ (after .wrOutput 1 4 0 0 ready1).res.r0 = 13 ∧
    (after .wrOutput 1 16 0 0x12345678
      { encoder with ctrl := 7, insts := [0x00, 0x0A, 0x41, 0xA6, 0x78, 0x79, 0x03, 0x75, 0x12], wrInstCount := 4, wrTargetLen := 21 }).out =
      [0x05, 0x10, 0x00, 0x13, 0x15, 0x00, 0x00, 0x09, 0x00, 0x81, 0x91, 0xD1, 0xAC, 0x78, 0x00, 0x0A, 0x41, 0xA6, 0x78, 0x79, 0x03, 0x75,
       0x12] := by decide +kernel

theorem test_wr_output_refused :
    (after .wrOutput 3 0 0 0 encoder).status = .malformed ∧ (after .wrOutput 4 0 0 0 encoder).status = .malformed ∧
    (after .wrOutput 0 0 0 0 encoder).status = .ok ∧ (after .wrOutput 0 0 0 0 encoder).out = [] := by decide +kernel

theorem test_wr_discard :
    (after .wrDiscard 0 0 0 0 ready1).insts = [] ∧ (after .wrDiscard 0 0 0 0 ready1).data = [] ∧
    (after .wrDiscard 0 0 0 0 ready1).wrInstCount = 0 := by decide +kernel

theorem test_fh_write :
    (after .fhWrite 0 0 0 0 State.reset).out = [0xD6, 0xC3, 0xC4, 0x00, 0x00] ∧
    (after .fhWrite 0 0 0 0 { State.reset with ctrl := 5 }).out = [0xD6, 0xC3, 0xC4, 0x53, 0x00] ∧
    (after .fhWrite 1 100 0 0 State.reset).out = [0xD6, 0xC3, 0xC4, 0x00, 0x02, 0x66, 0x04, 0x03] ∧
    (after .fhWrite 2 0 0 0 State.reset).status = .illegal ∧ (after .fhWrite 0 0 0 0 encoder).status = .stateError := by decide +kernel

/-! ### The parsers (95, section 2.6) -/

/-- STATUS, RES0..RES3 and FLAGS of FH_PARSE 0. -/
def fileParsed (bytes : List Byte) : Status × List Nat × Nat :=
  let u := after .fhParse 0 0 0 0 (withIn bytes)
  (u.status, results u, u.flags)

theorem test_fh_parse :
    fileParsed [0xD6, 0xC3, 0xC4, 0x00, 0x00] = (.ok, [5, 0, 0, 0], 0x009) ∧
    fileParsed [0xD6, 0xC3, 0xC4, 0x53, 0x00] = (.ok, [5, 0, 0, 0], 0x029) ∧
    fileParsed [0xD6, 0xC3, 0xC4, 0x00, 0x02, 0x66, 0x04, 0x03] = (.ok, [8, 1, 100, 0x0304], 0x009) ∧
    fileParsed [0xD6, 0xC3] = (.truncated, [0, 0, 0, 0], 0x001) := by decide +kernel

theorem test_fh_parse_rejects :
    fileParsed [0xD6, 0xC3, 0xC5, 0x00, 0x00] = (.malformed, [0, 0, 0, 0], 0x041) ∧
    (fileParsed [0xD6, 0xC3, 0xC4, 0x01, 0x00]).1 = .unsupported ∧ (fileParsed [0xD6, 0xC3, 0xC4, 0x00, 0x01]).1 = .unsupported ∧
    (fileParsed [0xD6, 0xC3, 0xC4, 0x00, 0x05]).1 = .malformed ∧
    (fileParsed [0xD6, 0xC3, 0xC4, 0x00, 0x02, 0x01, 0x04, 0x03]).1 = .malformed ∧
    (fileParsed [0xD6, 0xC3, 0xC4, 0x00, 0x02, 0x02, 0xFF, 0x00]).1 = .malformed ∧
    (fileParsed [0xD6, 0xC3, 0xC4, 0x00, 0x02, 0x66, 0x04]).1 = .truncated := by decide +kernel

theorem test_wh_parse :
    (after .whParse 5 0 0 0 opened1).w = window1 ∧ results (after .whParse 5 0 0 0 opened1) = [14, 18, 0, 0] ∧
    (after .whParse 5 0 0 0 opened1).flags = 0x00D ∧
    (after .whParse 5 0 0 0 { opened1 with inp := file1.take 14 }).res.r1 = 18 ∧
    (after .whParse 5 0 0 0 { opened1 with inp := file1.take 10 }).flags = 0x009 := by decide +kernel

theorem test_wh_parse_rejects :
    (after .whParse 5 0 0 0 { opened1 with dictSize := 3 }).status = .outOfRange ∧
    (after .whParse 5 0 0 0 { opened1 with maxWindowSize := 5 }).status = .outOfRange ∧
    (after .whParse 5 0 0 0 { opened1 with inp := file1.set 8 0x0A }).flags = 0x049 ∧
    (after .whParse 5 0 0 0 { opened1 with inp := file1.set 5 0x05 }).status = .malformed ∧
    (after .whParse 5 0 0 0 { opened1 with inp := file1.set 5 0x02, ctrl := 0 }).status = .unsupported ∧
    (after .whParse 5 0 0 0 { opened1 with inp := file1.set 10 0x01 }).status = .unsupported ∧
    (after .whParse 5 0 0 0 { opened1 with inp := file1.set 10 0x09 }).status = .malformed := by decide +kernel

theorem test_win_end :
    (after .winEnd 6 0 0 0 read1).res.r0 = 18 ∧ (after .winEnd 6 0 0 0 read1).decTargetTotal = 6 ∧
    (after .winEnd 6 0 0 0 read1).flags = 0x009 ∧ (after .winEnd 6 0 0 0 parsed1).status = .stateError := by decide +kernel

theorem test_win_end_rejects :
    (after .winEnd 5 0 0 0 read1).status = .malformed ∧
    (after .winEnd 6 0 0 0 { read1 with inp := file1.take 17 }).status = .truncated ∧
    (after .winEnd 6 0 0 0 { read1 with pendingOp := some 0xA6 }).flags.testBit 6 = true := by decide +kernel

/-! ### Steps -/

/-- The next state of one step. -/
def stepped (s : State) : State :=
  match step s with
  | .next t => t
  | _ => s

theorem test_step_illegal :
    (stepped { reading1 with host := [.writeCmd 0x05] }).status = .illegal ∧
    (stepped { reading1 with host := [.writeCmd 0x05], sessionFailed := true }).status = .illegal := by decide +kernel

theorem test_step_fetch_word :
    (stepped (State.reset.withFetchWord 8 0xA6)).res.r1 = 2 ∧ (stepped (State.reset.withFetchWord 8 0xA6)).pendingOp = some 0xA6 ∧
    (stepped (State.reset.withFetchWord 8 0x7F)).status = .ok ∧ (stepped (State.reset.withFetchWord 8 0x06)).res.r1 = 5 := by decide +kernel

theorem test_step_host_map :
    HostMap.write [(0x10, .cmd), (0x18, .arg 2)] 0x10 0x123 = some (.writeCmd 0x23) ∧
    HostMap.write [(0x10, .cmd), (0x18, .arg 2)] 0x18 7 = some (.writeArg 2 7) ∧
    HostMap.read [(0x10, .status)] 0x10 = some .readStatus := by decide


/-! ### Witnesses: for every statement with hypotheses, concrete inputs that meet them, clause by clause -/

/-- The command moves this state to one with the stated property. -/
abbrev Moves (i : Instr) (s : State) (p : State → Prop) : Prop := ∃ t, exec i s = .next t ∧ p t

theorem moves {i : Instr} {s : State} {p : State → Prop} (h : p (match exec i s with | .next t => t | _ => s)) : Moves i s p := by
  exact ⟨_, exec_eq i s, by rw [exec_eq] at h; exact h⟩

/-- What the table invariant speaks of is as at reset. -/
abbrev TableAsReset (s : State) : Prop :=
  s.ct = State.reset.ct ∧ s.nearSize = State.reset.nearSize ∧ s.sameSize = State.reset.sameSize ∧ s.first = State.reset.first ∧
    s.second = State.reset.second

theorem invTable_reset : InvTable State.reset :=
  { canonical := rfl
    caches := by decide +kernel
    valid := fun _ => by decide +kernel
    first := fun _ => by simp only [State.reset, State.resetWith]
    second := fun _ => by simp only [State.reset, State.resetWith] }

theorem invTable_default {s : State} (h : TableAsReset s) : InvTable s := by
  obtain ⟨hct, hn, hs, hf, h2⟩ := h
  obtain ⟨i1, i2, i3, i4, i5⟩ := invTable_reset
  exact
    { canonical := by rw [hct]; exact i1
      caches := by rw [hn, hs]; exact i2
      valid := fun _ => by
        rw [hct, show s.maxMode = State.reset.maxMode by simp only [State.maxMode, hn, hs]]
        exact i3 (by decide +kernel)
      first := fun _ => by rw [hf, hct]; exact i4 (by decide +kernel)
      second := fun _ => by rw [h2, hf, hct]; exact i5 (by decide +kernel) }

theorem witness_DecodeEncodeAgree :
    decode .command [0x7F, 0x01] = .ok (.reset, [0x01]) ∧ decode .stream [0xFF] = .ok (.opCopy4M8Add1, []) ∧
    ([0x05, 0x0F, 0x15, 0x17, 0x1A, 0x1F, 0x25, 0x2F, 0x36, 0x3F, 0x43, 0x6F, 0x73, 0x7E, 0x80, 0xFF].all
      (fun c : Byte => decide (decode .command [c] = .error (.illegalCommand c)))) = true ∧
    ([0x04, 0x10, 0x14, 0x18, 0x19, 0x20, 0x24, 0x30, 0x35, 0x40, 0x42, 0x70, 0x72, 0x7F].all
      (fun c : Byte => decide (decode .command [c] ≠ .error (.illegalCommand c)))) = true := by decide +kernel

theorem witness_StepRunsDecodedCommand :
    ∃ s : State, s.host = [.writeCmd 0x23] ∧ decode .command [0x23] = .ok (.rdGet, []) :=
  ⟨{ reading1 with host := [.writeCmd 0x23] }, rfl, by decide⟩

theorem witness_RdGetRunsOpcodeAtCursor :
    reading1.unread = [0xA6] ∧ decode .stream reading1.unread = .ok (.opAdd2Copy4M0, []) ∧
    { reading1 with host := [.writeCmd 0x23] }.host = [.writeCmd 0x23] ∧
    { reading1 with host := [.writeCmd 0x23] }.unread = [0xA6] ∧
    Instr.opRun.opcode?.isSome = true ∧ (stream [] 0).unread = [] := by decide +kernel

theorem witness_HostAccesses :
    State.reset.host = [] ∧
    (∀ a ∈ [HostAccess.writeArg 0 1, .writeArg 1 1, .writeArg 2 1, .writeArg 3 1, .readRes 0, .readRes 1, .readRes 2, .readRes 3, .readStatus,
      .readCmd, .readOut 4, .readIn 1, .readOut 5, .readIn 2], { ready1 with host := [a] }.host = a :: []) ∧
    ready1.readByte .out 4 = some 0x00 ∧ ready1.readByte .inp 1 = some 0x62 ∧ ready1.outLen ≤ 5 ∧ ready1.inLen ≤ 2 := by decide +kernel

theorem witness_IllegalCode :
    { reading1 with host := [.writeCmd 0x05] }.host = .writeCmd 0x05 :: [] ∧ decode .command [0x05] = .error (.illegalCommand 0x05) := by
  decide +kernel

theorem witness_InAppendEffect :
    (State.resetWith { inSize := 1, wrCapacity := 1 }).inLen < 1 ∧
    { State.resetWith { inSize := 1, wrCapacity := 1 } with inp := [0xD6] }.inLen = 1 := by decide +kernel

theorem witness_VarintCanonical :
    2 ^ 64 - 1 < 2 ^ 64 ∧ vlen 127 = 1 ∧ vlen 128 = 1 + vlen 1 ∧ vlen (2 ^ 32 - 1) = 5 ∧ vlen (2 ^ 63 - 1) = 9 ∧
    (∀ b ∈ [0x80#8, 0x81#8], 128 ≤ b.toNat) ∧
    ([0x80#8, 0x81#8] ++ [0x00#8]).foldl (fun a b => a * 128 + b.toNat % 128) 0 = 128 := by decide +kernel

theorem witness_VarintDecode :
    (∃ last, [0x90#8, 0x80, 0x80, 0x80, 0x00][0 + 4]? = some last ∧ last.toNat < 128) ∧
    (∀ b ∈ ([0x90#8, 0x80, 0x80, 0x80, 0x00].drop 0).take 4, 128 ≤ b.toNat) ∧
    vdec32 [0x90, 0x80, 0x80, 0x80, 0x00] 0 5 = .malformed ∧ vdec64 [0x90, 0x80, 0x80, 0x80, 0x00] 0 5 = .ok (2 ^ 32) 5 ∧
    (∀ b ∈ ((List.replicate 5 0x80#8).drop 0).take 5, 128 ≤ b.toNat) ∧ vdec32 (List.replicate 5 0x80#8) 0 5 = .truncated ∧
    vdec32 (List.replicate 6 0x80#8) 0 6 = .malformed ∧ vdec64 (List.replicate 10 0x80#8) 0 10 = .malformed :=
  ⟨⟨0x00, by decide⟩, by decide +kernel⟩

theorem witness_VarintRoundTrip :
    ∃ s d e : State, s.a0 = 300 ∧ (d.inp.drop d.a0).take (vlen s.a0) = venc s.a0 ∧ d.a0 + vlen s.a0 ≤ d.inLen ∧ d.a1 ≤ d.inLen ∧
      d.a0 + vlen s.a0 ≤ d.a1 ∧ (e.inp.drop e.a0).take (vlen s.a0) = venc s.a0 ∧ e.a0 ≤ e.a1 ∧ e.a1 < e.a0 + vlen s.a0 ∧
      vdec32 [0x82, 0x2C] 0 2 = .ok 300 2 :=
  ⟨withArgs State.reset 300 0 0 0, withArgs (withIn [0x82, 0x2C]) 0 2 0 0, withArgs (withIn [0x82, 0x2C]) 0 1 0 0, by decide +kernel⟩

theorem witness_CtWriteEffect : (withArgs State.reset 5 255 255 0).a0 ≤ 5 ∧ (withArgs State.reset 5 255 255 0).a1 ≤ 255 ∧
    (withArgs State.reset 5 255 255 0).a2 ≤ 255 := by decide +kernel

theorem witness_MapsHoldLowest : InvTable State.reset ∧ State.reset.tableValid = true ∧ 8 ≤ State.reset.maxMode :=
  ⟨invTable_reset, by decide +kernel⟩

theorem witness_MapFirstEffect : ∃ s : State, InvTable s ∧ s.tableValid = true ∧ s.a0 = 3 ∧ s.a1 = s.maxMode ∧ s.a2 = maxField :=
  ⟨withArgs State.reset 3 8 2147483647 0, invTable_default (by simp only [TableAsReset, withArgs, and_self]), by decide +kernel⟩

theorem witness_ForwardReverse :
    InvTable State.reset ∧ firstLookup State.reset.first (instIdx typAdd 0) 1 = some 0x02 ∧
    (let d := stream [0x02, 0x09] 2
     d.ct = State.reset.ct ∧ d.tableValid = true ∧ d.readerActive = true ∧ d.sessionFailed = false ∧ d.pushbackInst = none ∧
       d.pendingOp = none ∧ d.rdEnd.toNat ≤ d.inLen ∧ d.unread = [0x02] ++ [] ++ [0x09]) ∧
    secondLookup State.reset.second 3 (instIdx typCopy 0) 4 = some 0xA6 :=
  ⟨invTable_reset, by decide +kernel⟩

theorem witness_DefaultTable :
    (defaultRow 162).second = noopHalf ∧ (defaultRow 163).second ≠ noopHalf ∧ (defaultRow 255).second ≠ noopHalf := by decide +kernel

theorem witness_TableCoherence :
    Moves .ctWrite (withArgs State.reset 2 18 0 0) (fun t => t.status = .ok) ∧
    Moves .ctSetCache (withArgs State.reset 4 3 0 0) (fun t => t.status = .ok) ∧
    (let s := { reading1 with tableValid := false }
     s.tableValid = false ∧ s.sessionFailed = false) ∧
    reading1.readerActive = true ∧ ready1.wrInstCount ≠ 0 ∧
    Moves .ctCommit { State.reset with tableValid := false } (fun t => t.tableValid = true) :=
  ⟨moves (by decide +kernel), moves (by decide +kernel), by decide +kernel, by decide +kernel, by decide +kernel, moves (by decide +kernel)⟩

theorem witness_RdGetEffect_refusals :
    { reading1 with sessionFailed := true }.sessionFailed = true ∧ parsed1.sessionFailed = false ∧ parsed1.readerActive = false ∧
    { reading1 with tableValid := false }.tableValid = false := by decide +kernel

theorem witness_RdGetEffect :
    (let s := { read1 with pushbackInst := some { typ := 3, size := 4, mode := 0 }, lastInst := none }
     s.sessionFailed = false ∧ s.readerActive = true ∧ s.tableValid = true ∧ s.pushbackInst = some { typ := 3, size := 4, mode := 0 }) ∧
    (let s := { read1 with pendingOp := some 0xA6 }
     s.sessionFailed = false ∧ s.readerActive = true ∧ s.tableValid = true ∧ s.pushbackInst = none ∧ s.pendingOp = some 0xA6) := by
  decide +kernel

theorem witness_RdGetEffect_scan :
    (let s := { stream [0x02, 0x03] 2 with ct := noopTable }
     s.sessionFailed = false ∧ s.readerActive = true ∧ s.tableValid = true ∧ s.pushbackInst = none ∧ s.pendingOp = none ∧
       s.unread = [0x02] ++ 0x03 :: [] ∧ bareNoop s.ct 0x02 ∧ ¬bareNoop s.ct 0x03) ∧
    (let s := { stream [0x02, 0x02] 2 with ct := noopTable }
     s.unread = [0x02, 0x02] ∧ ∀ b ∈ s.unread, bareNoop s.ct b) := by decide +kernel

theorem witness_OpcodeRows :
    Instr.opAdd2Copy4M0.opcode? = some 0xA6 ∧ reading1.sessionFailed = false ∧ reading1.readerActive = true ∧ reading1.tableValid = true ∧
    reading1.pushbackInst = none ∧ reading1.pendingOp = none ∧ reading1.unread ≠ [] ∧
    (returnedHalf reading1.ct 0xA6).typ ≠ typNoop ∧ (returnedHalf reading1.ct 0xA6).size ≠ 0 ∧ reading1.ct = defaultCt := by decide +kernel

theorem witness_OpcodeRows_sized :
    let s := stream [0x13, 0x87, 0xFF, 0xFF, 0xFF, 0x7F] 6
    (returnedHalf s.ct 0x13).typ ≠ typNoop ∧ (returnedHalf s.ct 0x13).size = 0 ∧
      vdec32 s.inp (s.rdPos.toNat + 1) s.rdEnd.toNat = .ok maxField 18 := by decide +kernel

theorem witness_OpcodeRows_noop :
    Instr.opAdd1.opcode? = some 0x02 ∧
    (let s := { stream [0x02, 0x02, 0x03] 3 with ct := noopTable }
     bareNoop s.ct 0x02 ∧ s.unread = 0x02 :: ([0x02] ++ 0x03 :: []) ∧ ¬bareNoop s.ct 0x03) ∧
    (let s := { stream [0x02, 0x02] 2 with ct := noopTable }
     s.unread = 0x02 :: [0x02] ∧ ∀ x ∈ [0x02#8], bareNoop s.ct x) := by decide +kernel

theorem witness_ReaderChunkInvariance :
    (let s := { stream [0x01] 1 with inp := (stream [0x01] 1).inp }
     s.rdPos.toNat ≤ s.rdEnd.toNat ∧ s.rdEnd.toNat ≤ s.inLen ∧ s.rdEnd.toNat ≤ (14 : Word).toNat ∧ (14 : Word).toNat ≤ s.inLen + 1) ∧
    Moves .rdGet (stream [0x01] 1) (fun t => t.status = .truncated) ∧
    Moves .rdGet { stream [0x01] 1 with inp := (stream [0x01] 1).inp ++ [0x05], rdEnd := 14 } (fun u => u.status = .ok) ∧
    Moves .rdGet (stream [0x03] 1) (fun t => t.status ≠ .truncated) :=
  ⟨by decide +kernel, moves (by decide +kernel), moves (by decide +kernel), moves (by decide +kernel)⟩

theorem invTable_encoder : InvTable encoder := invTable_default (by simp only [TableAsReset, encoder, and_self])

/-- An ADD at the end of IN, and the refusals of R700 and R703. -/
theorem witness_WrAddEffect :
    InvTable (withArgs encoder 18 2 0 0) ∧ (withArgs encoder 18 2 0 0).a0 + (withArgs encoder 18 2 0 0).a1 = encoder.inLen :=
  ⟨invTable_default (by simp only [TableAsReset, withArgs, encoder, and_self]), by decide +kernel⟩

theorem witness_WrRunEffect : InvTable (withArgs encoder 255 2147483647 0 0) ∧ (withArgs encoder 255 2147483647 0 0).a1 = maxField :=
  ⟨invTable_default (by simp only [TableAsReset, withArgs, encoder, and_self]), by decide +kernel⟩

theorem witness_WrCopyEffect :
    InvTable (withArgs encoder 4 6 255 0) ∧ (withArgs encoder 4 6 255 0).a1 = 2 + encoder.nearSize.toNat ∧
    (withArgs encoder 4 8 0 0).a1 = encoder.maxMode :=
  ⟨invTable_default (by simp only [TableAsReset, withArgs, encoder, and_self]), by decide +kernel⟩

/-- Every field of the invariant but the table's, for a state whose decoder is shut and whose writer regions are these. -/
theorem inv_encoding {s : State} (ht : InvTable s) (hin : s.inp.length ≤ s.cfg.inSize) (hc : s.cfg.wf) (hl : InvLimits s)
    (hd : s.extAllowed = false ∧ s.winActive = false ∧ s.decTargetTotal = 0 ∧ s.readerActive = false ∧ s.pendingOp = none ∧
      s.pushbackInst = none ∧ s.lastInst = none) (hw : s.w = WindowRegs.reset) (hwr : InvWriter s) : Inv s := by
  obtain ⟨h1, h2, h3, h4, h5, h6, h7⟩ := hd
  exact
    { config := ⟨hc, hin⟩, table := ht, limits := hl, writer := hwr
      session := by constructor <;> simp [h1, h2, h3]
      window := by
        constructor <;> simp [hw, WindowRegs.reset, WindowRegs.interleaved]
      reader := by constructor <;> simp [h4, h5, h6, h7] }

theorem inv_ready1 : Inv ready1 :=
  inv_encoding (invTable_default (by simp only [TableAsReset, ready1, and_self])) (by decide +kernel) (by decide +kernel)
    ⟨by decide +kernel, by decide +kernel, by decide +kernel⟩ (by decide +kernel) rfl
    { empty := fun h => absurd h (by decide +kernel)
      used := fun _ => by decide +kernel
      capacity := by decide +kernel
      count := by decide +kernel
      target := by decide +kernel
      last := fun pos h => by cases h
      oneRegion := fun h => absurd h (by decide +kernel) }

/-- An encoder with nothing in its window. -/
theorem inv_encoder : Inv encoder :=
  inv_encoding (invTable_default (by simp only [TableAsReset, encoder, and_self])) (by decide +kernel) (by decide +kernel)
    ⟨by decide +kernel, by decide +kernel, by decide +kernel⟩ (by decide +kernel) rfl
    { empty := fun _ => by decide +kernel
      used := fun h => absurd rfl h
      capacity := by decide +kernel
      count := by decide +kernel
      target := by decide +kernel
      last := fun pos h => by cases h
      oneRegion := fun _ => by decide +kernel }

/-- The invariant does not depend on the arguments. -/
theorem inv_args {s : State} (q : Quad) (h : Inv s) : Inv { s with arg := q } := by
  obtain ⟨h1, h2, h3, h4, h5, h6, h7⟩ := h
  exact ⟨⟨h1.1, h1.2⟩, ⟨h2.1, h2.2, h2.3, h2.4, h2.5⟩, ⟨h3.1, h3.2, h3.3⟩, ⟨h4.1, h4.2, h4.3, h4.4, h4.5⟩,
    ⟨h5.1, h5.2, h5.3, h5.4, h5.5, h5.6, h5.7, h5.8, h5.9⟩, ⟨h6.1, h6.2, h6.3, h6.4, h6.5, h6.6⟩,
    ⟨h7.1, h7.2, h7.3, h7.4, h7.5, h7.6, h7.7⟩⟩

/-- The invariant depends on CTRL in the layout of the writer's regions only. -/
theorem inv_ctrl {s : State} (c : BitVec 3) (h : Inv s) (hw : c.getLsbD 0 = true → s.data = [] ∧ s.addrs = []) :
    Inv { s with ctrl := c } := by
  obtain ⟨h1, h2, h3, h4, h5, h6, h7⟩ := h
  exact ⟨⟨h1.1, h1.2⟩, ⟨h2.1, h2.2, h2.3, h2.4, h2.5⟩, ⟨h3.1, h3.2, h3.3⟩, ⟨h4.1, h4.2, h4.3, h4.4, h4.5⟩,
    ⟨h5.1, h5.2, h5.3, h5.4, h5.5, h5.6, h5.7, h5.8, h5.9⟩, ⟨h6.1, h6.2, h6.3, h6.4, h6.5, h6.6⟩,
    ⟨h7.1, h7.2, h7.3, h7.4, h7.5, h7.6, hw⟩⟩

/-- ADD 2, COPY 4: the regions they leave, and a reader over those instructions. -/
theorem witness_WriterReaderRoundTrip :
    Inv encoder ∧ encoder.wrInstCount = 0 ∧
    ∃ t, Writes [.add 0 2, .copy 4 0 0] encoder t ∧ t.insts = [0xA6] ∧
      (let d := reading1
       d.ct = encoder.ct ∧ d.tableValid = true ∧ d.readerActive = true ∧ d.sessionFailed = false ∧ d.pushbackInst = none ∧
         d.pendingOp = none ∧ d.rdPos.toNat ≤ d.rdEnd.toNat ∧ d.rdEnd.toNat ≤ d.inLen ∧ d.unread = [0xA6]) :=
  ⟨inv_encoder, by decide +kernel,
    after .wrCopy 4 0 0 0 (after .wrAdd 0 2 0 0 encoder),
    ⟨_, rfl, by decide +kernel, _, rfl, by decide +kernel, rfl⟩, by decide +kernel, by decide +kernel⟩

/-- The same in the interleaved layout, with an ADD alone. -/
theorem witness_WriterReaderRoundTrip_interleaved :
    Inv { encoder with ctrl := 5 } ∧ State.wrInterleaved { encoder with ctrl := 5 } = true ∧
    ∃ t, Writes [.add 0 2] { encoder with ctrl := 5 } t ∧ t.insts = [0x03, 0x61, 0x61] ∧
      (let d := stream [0x03, 0x61, 0x61] 3
       d.ct = encoder.ct ∧ d.tableValid = true ∧ d.readerActive = true ∧ d.sessionFailed = false ∧ d.pushbackInst = none ∧
         d.pendingOp = none ∧ d.rdPos.toNat ≤ d.rdEnd.toNat ∧ d.rdEnd.toNat ≤ d.inLen ∧ d.unread = t.insts) :=
  ⟨inv_ctrl 5 inv_encoder (fun _ => by decide +kernel), by decide +kernel, after .wrAdd 0 2 0 0 { encoder with ctrl := 5 }, ⟨_, rfl, by decide +kernel, rfl⟩,
    by decide +kernel, by decide +kernel⟩

theorem inv_reset : Inv State.reset :=
  inv_encoding invTable_reset (by decide +kernel) (by decide +kernel) ⟨by decide +kernel, by decide +kernel, by decide +kernel⟩
    (by decide +kernel) rfl
    { empty := fun _ => by decide +kernel
      used := fun h => absurd rfl h
      capacity := by decide +kernel
      count := by decide +kernel
      target := by decide +kernel
      last := fun pos h => by cases h
      oneRegion := fun h => absurd h (by decide +kernel) }

theorem witness_HeaderRoundTrips_file :
    (∃ s : State, Inv s ∧ Moves .fhWrite s (fun t => t.status = .ok ∧ t.out = s.out ++ [0xD6, 0xC3, 0xC4, 0x00, 0x00])) ∧
    (withIn file1).sessionFailed = false ∧ (withIn file1).decOpen = false ∧ (withIn file1).inLen < 2 ^ 64 ∧
    (withIn file1).inp.drop (withIn file1).a0 = [0xD6, 0xC3, 0xC4, 0x00, 0x00] ++ file1.drop 5 :=
  ⟨⟨State.reset, inv_reset, moves (by decide +kernel)⟩, by decide +kernel⟩

/-- The header that announces a custom table (95, section 2.5). -/
theorem witness_HeaderRoundTrips_custom :
    Inv (withArgs State.reset 1 100 0 0) ∧
    Moves .fhWrite (withArgs State.reset 1 100 0 0)
      (fun t => t.status = .ok ∧ t.out = State.reset.out ++ [0xD6, 0xC3, 0xC4, 0x00, 0x02, 0x66, 0x04, 0x03]) ∧
    (let d := withIn [0xD6, 0xC3, 0xC4, 0x00, 0x02, 0x66, 0x04, 0x03]
     d.sessionFailed = false ∧ d.decOpen = false ∧ d.inLen < 2 ^ 64 ∧
       d.inp.drop d.a0 = [0xD6, 0xC3, 0xC4, 0x00, 0x02, 0x66, 0x04, 0x03] ++ []) :=
  ⟨inv_args _ inv_reset, moves (by decide +kernel), by decide +kernel⟩

theorem witness_HeaderRoundTrips_window :
    Inv (withArgs ready1 1 4 0 0) ∧
    Moves .wrOutput (withArgs ready1 1 4 0 0) (fun t => t.status = .ok ∧ t.out = ready1.out ++ file1.drop 5) ∧ ready1.wrInstCount ≠ 0 ∧
    (let d := withArgs opened1 5 0 0 0
     d.sessionFailed = false ∧ d.decOpen = true ∧ d.winActive = false ∧ d.inLen < 2 ^ 63 ∧ d.inp.drop d.a0 = file1.drop 5 ++ [] ∧
       4 + 0 ≤ d.dictSize.toNat ∧ ready1.wrTargetLen.toNat ≤ d.maxWindowSize.toNat ∧
       d.decTargetTotal.toNat + ready1.wrTargetLen.toNat ≤ d.maxFileSize.toNat) :=
  ⟨inv_args _ inv_ready1, moves (by decide +kernel), by decide +kernel, by decide +kernel⟩

/-- A window with a checksum whose source segment lies in the decoded target (R340, R341, R706). -/
theorem witness_HeaderRoundTrips_target :
    (let s := withArgs { ready1 with ctrl := 6 } 2 4 0 5
     Inv s ∧ s.wrChecksum = true ∧ s.a0 = 2 ∧ s.wrInstCount ≠ 0) ∧
    Moves .wrOutput (withArgs { ready1 with ctrl := 6 } 2 4 0 5)
      (fun t => t.status = .ok ∧
        t.out = ready1.out ++ [0x06, 0x04, 0x00, 0x0A, 0x06, 0x00, 0x02, 0x01, 0x01, 0x05, 0x61, 0x62, 0xA6, 0x00]) ∧
    (let d := { State.reset with
       inp := [0x06, 0x04, 0x00, 0x0A, 0x06, 0x00, 0x02, 0x01, 0x01, 0x05, 0x61, 0x62, 0xA6, 0x00], decOpen := true, extAllowed := true
       decTargetTotal := 4 }
     d.sessionFailed = false ∧ d.decOpen = true ∧ d.winActive = false ∧ d.inLen < 2 ^ 63 ∧ d.extAllowed = true ∧ d.allowVcdTarget = true ∧
       d.inp.drop d.a0 = [0x06, 0x04, 0x00, 0x0A, 0x06, 0x00, 0x02, 0x01, 0x01, 0x05, 0x61, 0x62, 0xA6, 0x00] ++ [] ∧
       4 + 0 ≤ d.decTargetTotal.toNat ∧ ready1.wrTargetLen.toNat ≤ d.maxWindowSize.toNat ∧
       d.decTargetTotal.toNat + ready1.wrTargetLen.toNat ≤ d.maxFileSize.toNat) :=
  ⟨⟨inv_args _ (inv_ctrl 6 inv_ready1 (fun h => absurd h (by decide))), by decide +kernel⟩, moves (by decide +kernel), by decide +kernel⟩

theorem witness_FailuresPrecise :
    Moves .rdStart (withArgs parsed1 16 18 0 0) (fun t => t.status ≠ .ok) ∧
    Moves .winEnd (withArgs read1 5 0 0 0) (fun t => t.status ≠ .ok ∧ t.sessionFailed ≠ read1.sessionFailed) ∧
    Moves .rdGet { stream [0x02] 1 with ct := noopTable } (fun t => t.status ≠ .ok ∧ t.rdPos ≠ 12) :=
  ⟨moves (by decide +kernel), moves (by decide +kernel), moves (by decide +kernel)⟩

theorem witness_StreamErrors :
    Moves .whParse (withArgs { opened1 with dictSize := 3 } 5 0 0 0)
      (fun t => t.status = .outOfRange ∧ t.sessionFailed = true) ∧
    Moves .whParse (withArgs opened1 19 0 0 0) (fun t => t.status = .outOfRange ∧ t.sessionFailed = false) ∧
    Moves .vdec32 (withArgs (withIn (List.replicate 6 0x80)) 0 6 0 0) (fun t => t.status = .malformed ∧ t.sessionFailed = false) :=
  ⟨moves (by decide +kernel), moves (by decide +kernel), moves (by decide +kernel)⟩

theorem witness_StickyFailure :
    isDecodeSide .whParse ∧ isDecodeSide .opRun ∧ ¬isDecodeSide .venc32 ∧ { reading1 with sessionFailed := true }.sessionFailed = true ∧
    Moves .reset { reading1 with sessionFailed := true } (fun t => t.sessionFailed = false) ∧
    Moves .venc32 reading1 (fun t => t.status = .ok) :=
  ⟨by decide, by decide, by decide, by decide +kernel, moves (by decide +kernel), moves (by decide +kernel)⟩

theorem witness_Totality :
    { ready1 with host := [.readOut 5] }.outLen ≤ 5 ∧ { ready1 with host := [.readIn 2] }.inLen ≤ 2 := by decide +kernel

theorem witness_InAppendOnly :
    Moves .inAppend (withArgs State.reset 0x1D6 0 0 0) (fun t => t.status = .ok) ∧ Moves .reset opened1 (fun t => t.inp = []) ∧
    Moves .nop opened1 (fun t => t.inp = file1) ∧ (∃ t, step { opened1 with host := [.readStatus] } = .next t ∧ t.inp = file1) :=
  ⟨moves (by decide +kernel), moves (by decide +kernel), moves (by decide +kernel), _, rfl, by decide +kernel⟩

theorem witness_OutAppendOnly :
    Moves .fhWrite State.reset (fun t => t.out = [] ++ [0xD6, 0xC3, 0xC4, 0x00, 0x00]) ∧ Moves .nop ready1 (fun t => t.out = ready1.out ++ []) ∧
    (∃ t, step { ready1 with host := [.readOut 0] } = .next t ∧ t.out = ready1.out ∧ t.hostData = 0xD6) :=
  ⟨moves (by decide +kernel), moves (by decide +kernel), _, rfl, by decide +kernel⟩

theorem witness_FlagWriters_flags :
    Moves .ctWrite (withArgs State.reset 2 18 0 0) (fun t => t.tableValid = false) ∧
    Moves .ctCommit { State.reset with tableValid := false } (fun t => t.tableValid = true) ∧
    Moves .rdStart (withArgs parsed1 16 17 0 0) (fun t => t.readerActive = true) ∧
    Moves .winEnd (withArgs read1 6 0 0 0) (fun t => t.readerActive = false ∧ t.winActive = false) ∧
    Moves .whParse (withArgs opened1 5 0 0 0) (fun t => t.winActive = true) ∧
    Moves .fhParse (withIn file1) (fun t => t.decOpen = true) ∧ Moves .fhWrite State.reset (fun t => t.encOpen = true) ∧
    Moves .fhParse (withIn (file1.set 3 0x53)) (fun t => t.extAllowed = true) ∧
    Moves .reset { opened1 with extAllowed := true, encOpen := true, sessionFailed := true }
      (fun t => t.extAllowed = false ∧ t.encOpen = false ∧ t.decOpen = false ∧ t.sessionFailed = false) :=
  ⟨moves (by decide +kernel), moves (by decide +kernel), moves (by decide +kernel), moves (by decide +kernel), moves (by decide +kernel),
    moves (by decide +kernel), moves (by decide +kernel), moves (by decide +kernel), moves (by decide +kernel)⟩

/-- The premise of the EXT_ALLOWED clause, and the three optional registers set and cleared. -/
theorem witness_FlagWriters_optional :
    InvSession { opened1 with extAllowed := true } ∧
    Moves .rdGet reading1 (fun t => t.pendingOp = some 0xA6 ∧ t.lastInst ≠ none) ∧
    Moves .rdGet { read1 with pendingOp := some 0xA6 } (fun t => t.pendingOp = none) ∧
    Moves .rdUnget read1 (fun t => t.pushbackInst = read1.lastInst ∧ t.pushbackInst ≠ none ∧ t.lastInst = none) ∧
    Moves .rdGet { read1 with pushbackInst := read1.lastInst, lastInst := none } (fun t => t.pushbackInst = none ∧ t.lastInst ≠ none) :=
  ⟨by constructor <;> decide +kernel, moves (by decide +kernel), moves (by decide +kernel), moves (by decide +kernel), moves (by decide +kernel)⟩

theorem witness_RegisterWriters :
    Moves .regWrite (withArgs State.reset 1 4 0 0) (fun t => t.dictSize ≠ 0) ∧
    Moves .ctSetCache (withArgs State.reset 2 1 0 0) (fun t => t.nearSize ≠ 4 ∧ t.sameSize ≠ 3) ∧
    Moves .ctWrite (withArgs State.reset 2 18 0 0) (fun t => t.ct ≠ []) ∧
    Moves .ctCommit { State.reset with ct := ctSet defaultCt 2 18 0, tableValid := false } (fun t => t.first ≠ State.reset.first) ∧
    Moves .whParse (withArgs opened1 5 0 0 0) (fun t => t.w ≠ opened1.w) ∧
    Moves .winEnd (withArgs read1 6 0 0 0) (fun t => t.decTargetTotal ≠ 0) ∧
    Moves .rdSeek (withArgs reading1 17 0 0 0) (fun t => t.rdPos ≠ 16) ∧
    Moves .rdExtend (withArgs { reading1 with rdEnd := 16 } 17 0 0 0) (fun t => t.rdEnd ≠ 16) ∧
    Moves .wrAdd (withArgs encoder 0 2 0 0)
      (fun t => t.insts ≠ [] ∧ t.data ≠ [] ∧ t.wrLast ≠ none ∧ t.wrInstCount ≠ 0 ∧ t.wrTargetLen ≠ 0 ∧ t.status = .ok) :=
  ⟨moves (by decide +kernel), moves (by decide +kernel), moves (by decide +kernel), moves (by decide +kernel), moves (by decide +kernel),
    moves (by decide +kernel), moves (by decide +kernel), moves (by decide +kernel), moves (by decide +kernel)⟩

theorem witness_MemoryFrames :
    Moves .venc64 (withArgs ready1 300 0 0 0) (fun t => t.readByte .out 5 = some 0x82 ∧ t.readByte .out 4 = some 0x00) ∧
    Moves .inAppend (withArgs ready1 7 0 0 0) (fun t => t.readByte .inp 2 = some 0x07 ∧ t.readByte .inp 1 = some 0x62) ∧
    Moves .ctWrite (withArgs State.reset 5 255 9 0) (fun t => t.readByte .ct 1535 = some 0x09 ∧ t.readByte .ct 1534 = some 0x00) ∧
    Moves .ctLoadDefault { State.reset with ct := ctSet defaultCt 2 18 0 } (fun t => t.readByte .ct 530 = some 0x11) ∧
    Moves .reset ready1 (fun t => t.readByte .out 0 = none) ∧ Moves .wrAdd (withArgs encoder 0 2 0 0) (fun t => t.readByte .out 0 = none) :=
  ⟨moves (by decide +kernel), moves (by decide +kernel), moves (by decide +kernel), moves (by decide +kernel), moves (by decide +kernel),
    moves (by decide +kernel)⟩

theorem witness_InvAtReset : ({ inSize := 1, wrCapacity := 1 } : Config).wf ∧
    ({ inSize := 9223372036854775808, wrCapacity := 9223372036854775808 } : Config).wf := by decide

/-- Two steps that change what the invariants speak of: a committed table is edited, and a command is run in a full window. -/
theorem witness_InvTableStep :
    ∃ s t : State, InvTable s ∧ step s = .next t ∧ t.tableValid = false ∧ t.ct ≠ s.ct :=
  ⟨{ withArgs State.reset 2 18 0 0 with host := [.writeCmd 0x12] }, _, invTable_default (by simp only [TableAsReset, withArgs, and_self]), rfl, by decide +kernel⟩

/-- A step that issues a command. -/
theorem step_issues {s : State} {code : Byte} {rest : List HostAccess} {i : Instr} (hh : s.host = .writeCmd code :: rest)
    (hc : decodeCommand code = some i) : step s = exec i { s with host := rest, cmd := code } := by
  simp only [step, fetch, hh, hc]

/-- The invariant does not depend on the host's accesses to come. -/
theorem inv_host {s : State} (l : List HostAccess) (h : Inv s) : Inv { s with host := l } := by
  obtain ⟨h1, h2, h3, h4, h5, h6, h7⟩ := h
  exact ⟨⟨h1.1, h1.2⟩, ⟨h2.1, h2.2, h2.3, h2.4, h2.5⟩, ⟨h3.1, h3.2, h3.3⟩, ⟨h4.1, h4.2, h4.3, h4.4, h4.5⟩,
    ⟨h5.1, h5.2, h5.3, h5.4, h5.5, h5.6, h5.7, h5.8, h5.9⟩, ⟨h6.1, h6.2, h6.3, h6.4, h6.5, h6.6⟩,
    ⟨h7.1, h7.2, h7.3, h7.4, h7.5, h7.6, h7.7⟩⟩

theorem witness_InvStep : ∃ s t : State, Inv s ∧ step s = .next t ∧ t.out ≠ s.out :=
  ⟨{ withArgs ready1 1 4 0 0 with host := [.writeCmd 0x33] }, _, inv_host _ (inv_args _ inv_ready1),
    (step_issues (i := .wrOutput) rfl (by decide)).trans (exec_eq _ _), by decide +kernel⟩

end Sys2Proof.Tests
end

/-! The statements of the family `10_state.md`: the step (O3), the host's accesses (O5), the frames of the flags and registers (O55,
O56), and the invariant (O60). -/

namespace Sys2Proof.Machine

/-! How a command can fail, said once over all instructions, on top of the per-command lemmas of Laws/Bodies. -/

section failures

variable {s t : State} {i : Instr} {f : Failure}

/-- A scan that finds nothing had no opcode pending, and ends past its last byte. -/
theorem nextHalf_exhausted {bytes : List Byte} {p : Nat} (h : nextHalf s.ct s.pendingOp bytes s.rdPos.toNat = .exhausted p) :
    p = s.rdPos.toNat + bytes.length := by
  cases hp : s.pendingOp with
  | some op => simp [hp] at h
  | none => rw [hp] at h; exact ((nextHalf_eq_exhausted _ _ _ _).1 h).2

/-- An RD_GET fails with STATUS alone, with a stream-content error, or past the last unread byte (R604, R1003). -/
theorem rdGetOn_failure {bytes : List Byte} (hl : bytes.length = s.unread.length) (h : rdGetOn bytes s = .error f) :
    (∃ st, st ≠ .ok ∧ f = .plain st) ∨ (∃ st, st ≠ .ok ∧ f = .stream st) ∨
      (s.readerActive = true ∧ f = .exhausted (s.rdPos.toNat + s.unread.length)) := by
  obtain ⟨_, rfl⟩ | ⟨_, _, rfl⟩ | ⟨_, hact, _, _, ⟨p, hp, rfl⟩ | rfl | rfl⟩ := rdGetOn_error h
  · exact .inl ⟨_, by decide, rfl⟩
  · exact .inl ⟨_, by decide, rfl⟩
  · exact .inr (.inr ⟨hact, by rw [nextHalf_exhausted hp, hl]⟩)
  · exact .inl ⟨_, by decide, rfl⟩
  · exact .inr (.inl ⟨_, by decide, rfl⟩)

/-- The three ways a command fails (R1002, R1003), with the commands that can: STATUS alone, a stream-content error, and the RD_GET
that runs past the last unread byte. -/
theorem bodyOf_failure (h : bodyOf i s = .error f) :
    (∃ st, st ≠ .ok ∧ f = .plain st) ∨ (∃ st, st ≠ .ok ∧ f = .stream st ∧ readsStream i) ∨
      (isReaderGet i ∧ s.readerActive = true ∧ f = .exhausted (s.rdPos.toNat + s.unread.length)) := by
  by_cases hget : isReaderGet i
  · obtain ⟨bytes, hb, hl, _⟩ := bodyOf_readerGet s hget
    obtain hp | ⟨st, hst, rfl⟩ | he := rdGetOn_failure hl (hb ▸ h)
    · exact .inl hp
    · exact .inr (.inl ⟨st, hst, rfl, .inr (.inr (.inr hget))⟩)
    · exact .inr (.inr ⟨hget, he⟩)
  by_cases hparse : i = .fhParse ∨ i = .whParse ∨ i = .winEnd
  · have hreads : readsStream i := by tauto
    obtain hrec | ⟨_, rfl | ⟨_, rfl | rfl⟩⟩ := bodyOf_parsers s hparse f h
    · obtain ⟨rfl, _⟩ | rfl | rfl | ⟨rfl, _⟩ := hrec <;> exact .inl ⟨_, by decide, rfl⟩
    all_goals exact .inr (.inl ⟨_, by decide, rfl, hreads⟩)
  by_cases hrefuse : i = .rdStart ∨ i = .rdExtend ∨ i = .rdSeek ∨ i = .rdUnget
  · obtain ⟨rfl, _⟩ | ⟨st, rfl, hok, _⟩ := bodyOf_refusing s hrefuse f h
    · exact .inl ⟨_, by decide, rfl⟩
    · exact .inl ⟨st, hok, rfl⟩
  · obtain ⟨st, rfl, hok, _⟩ := bodyOf_ordinary s (by simp only [isDecodeSide, List.mem_cons]; tauto) f h
    exact .inl ⟨st, hok, rfl⟩

/-- The inversion of an instruction: OK with its body's writes, or one of the three failures. -/
theorem exec_inversion (h : exec i s = .next t) :
    (∃ u, bodyOf i s = .ok u ∧ t = { u with status := .ok }) ∨
      (∃ st, st ≠ .ok ∧ t = { s with status := st }) ∨
      (∃ st, st ≠ .ok ∧ readsStream i ∧ t = { s with status := st, sessionFailed := true }) ∨
      (isReaderGet i ∧ s.readerActive = true ∧
        t = { s with status := .truncated, rdPos := w64 (s.rdPos.toNat + s.unread.length) }) := by
  obtain hok | ⟨f, hf, rfl⟩ := exec_cases h
  · exact .inl hok
  · obtain ⟨st, hst, rfl⟩ | ⟨st, hst, rfl, hi⟩ | ⟨hi, hact, rfl⟩ := bodyOf_failure hf
    · exact .inr (.inl ⟨st, hst, rfl⟩)
    · exact .inr (.inr (.inl ⟨st, hst, hi, rfl⟩))
    · exact .inr (.inr (.inr ⟨hi, hact, rfl⟩))

end failures

/-! What a step does with each kind of access (`10_state.md` R100, `20_memory.md` R202, R210). -/

section accesses

variable {s : State} {rest : List HostAccess}

theorem step_idle (h : s.host = []) : step s = .next s := by simp [step, fetch, h]

theorem step_writeCmd {code : Byte} {i : Instr} (h : s.host = .writeCmd code :: rest) (hc : decodeCommand code = some i) :
    step s = exec i { s with host := rest, cmd := code } := by
  simp [step, fetch, h, hc]

theorem step_writeArg {n : Fin 4} {v : Word} (h : s.host = .writeArg n v :: rest) :
    step s = .next { s with host := rest, arg := s.arg.set n v } := by
  simp [step, fetch, h]

theorem step_readRes {n : Fin 4} (h : s.host = .readRes n :: rest) :
    step s = .next { s with host := rest, hostData := s.res.get n } := by
  simp [step, fetch, h]

theorem step_readStatus (h : s.host = .readStatus :: rest) :
    step s = .next { s with host := rest, hostData := w64 s.status.code } := by
  simp [step, fetch, h]

theorem step_readCmd (h : s.host = .readCmd :: rest) :
    step s = .next { s with
      host := rest, hostData := w64 (Config.cmdReadback s.freeReads).toNat, freeReads := s.freeReads + 1 } := by
  simp [step, fetch, h]

theorem step_readOut {p : Nat} (h : s.host = .readOut p :: rest) :
    step s = answerByte (s.readByte .out p) .outByteAbsent { s with host := rest } := by
  simp [step, fetch, h, State.readByte]

theorem step_readIn {p : Nat} (h : s.host = .readIn p :: rest) :
    step s = answerByte (s.readByte .inp p) .inByteAbsent { s with host := rest } := by
  simp [step, fetch, h, State.readByte]

theorem readByte_out_absent {p : Nat} (h : s.outLen ≤ p) : s.readByte .out p = none := List.getElem?_eq_none h

theorem readByte_inp_absent {p : Nat} (h : s.inLen ≤ p) : s.readByte .inp p = none := List.getElem?_eq_none h

theorem decode_command_eq_ok {code : Byte} {i : Instr} {rest : List Byte} :
    decode .command [code] = .ok (i, rest) ↔ decodeCommand code = some i ∧ rest = [] := by
  simp only [decode]
  cases decodeCommand code <;> simp [eq_comm]

end accesses

/-- Settles O3: the step takes the write and dispatches on the decoded code. -/
theorem stepRunsDecodedCommand : Obligations.StepRunsDecodedCommand := by
  intro s code rest i hhost hdec
  exact step_writeCmd hhost (decode_command_eq_ok.1 hdec).1

/-- Settles O5, one lemma per kind of access. -/
theorem hostAccesses : Obligations.HostAccesses := by
  intro s rest
  refine ⟨step_idle, fun _ => step_writeArg, fun _ => step_writeArg, fun _ => step_writeArg, fun _ => step_writeArg,
    step_readRes, step_readRes, step_readRes, step_readRes, step_readStatus, ?_, ?_, ?_, ?_, fun h => ⟨_, step_readCmd h⟩⟩
  · intro p b h hb
    rw [step_readOut h, hb, answerByte]
  · intro p b h hb
    rw [step_readIn h, hb, answerByte]
  · intro p h hp
    rw [step_readOut h, readByte_out_absent hp, answerByte]
  · intro p h hp
    rw [step_readIn h, readByte_inp_absent hp, answerByte]

/-! What each instruction may write, the flags aside. -/

section registers

/-- What instruction `i` may have written between `s` and `t`, flags aside: the clauses of R100, R105, R108 to R110, R112, R113 and R117. -/
structure RegisterFrame (i : Instr) (s t : State) : Prop where
  inputs : t.arg ≠ s.arg ∨ t.cmd ≠ s.cmd → i = .reset
  cfg : t.cfg = s.cfg
  host : t.host = s.host
  hostData : t.hostData = s.hostData
  freeReads : t.freeReads = s.freeReads
  results : t.res ≠ s.res → t.status = .ok
  config : t.ctrl ≠ s.ctrl ∨ t.dictSize ≠ s.dictSize ∨ t.maxWindowSize ≠ s.maxWindowSize ∨ t.maxFileSize ≠ s.maxFileSize →
    i = .regWrite ∨ i = .reset
  caches : t.nearSize ≠ s.nearSize ∨ t.sameSize ≠ s.sameSize → i = .ctSetCache ∨ i = .ctLoadDefault ∨ i = .reset
  table : t.ct ≠ s.ct → i = .ctWrite ∨ i = .ctLoadDefault ∨ i = .reset
  maps : t.first ≠ s.first ∨ t.second ≠ s.second → i = .ctCommit ∨ i = .ctLoadDefault ∨ i = .reset
  window : t.w ≠ s.w → i = .whParse ∨ i = .reset
  total : t.decTargetTotal ≠ s.decTargetTotal → i = .winEnd ∨ i = .reset
  position : t.rdPos ≠ s.rdPos → i = .rdStart ∨ i = .rdSeek ∨ isReaderGet i ∨ i = .reset
  limit : t.rdEnd ≠ s.rdEnd → i = .rdStart ∨ i = .rdExtend ∨ i = .reset
  writer : t.data ≠ s.data ∨ t.insts ≠ s.insts ∨ t.addrs ≠ s.addrs ∨ t.wrLast ≠ s.wrLast ∨ t.wrInstCount ≠ s.wrInstCount ∨
    t.wrTargetLen ≠ s.wrTargetLen → i ∈ [Instr.wrAdd, .wrRun, .wrCopy, .wrOutput, .wrDiscard, .reset]

variable {s t : State} {i : Instr} {u : State}

theorem registerFrame_ok (h : bodyOf i s = .ok u) : RegisterFrame i s { u with status := .ok } := by
  revert i u
  apply ok_cases (s := s) (P := fun i u => RegisterFrame i s { u with status := .ok })
  case wrAdd | wrRun | wrCopy =>
    intros
    rename_i hadd
    rw [addInstruction_frame hadd]
    constructor <;> simp
  case getPushback | getHalf =>
    intros
    constructor <;> simp [*]
  case reset => constructor <;> simp [State.afterReset, State.resetWith]
  all_goals
    intros
    constructor <;> simp [State.closeReader, State.clearWindow]

theorem registerFrame_exec (h : exec i s = .next t) : RegisterFrame i s t := by
  obtain ⟨u, hu, rfl⟩ | ⟨st, _, rfl⟩ | ⟨st, _, _, rfl⟩ | ⟨hget, _, rfl⟩ := exec_inversion h
  · exact registerFrame_ok hu
  · constructor <;> simp
  · constructor <;> simp
  · constructor <;> simp [hget]

end registers

/-- Settles O56: the register frame of every instruction, clause by clause. -/
theorem registerWriters : Obligations.RegisterWriters := by
  intro i s t h
  have f := registerFrame_exec h
  exact ⟨f.inputs, f.cfg, f.host, f.hostData, f.freeReads, f.results, f.config, f.caches, f.table, f.maps, f.window, f.total,
    f.position, f.limit, f.writer⟩

/-! What each instruction may do to FLAGS and to the optional registers behind its bits 7 to 9 (`10_state.md` R104). -/

section flags

/-- What instruction `i` may have done to FLAGS and to the optional registers between `s` and `t`: the rows of R104. -/
structure FlagFrame (i : Instr) (s t : State) : Prop where
  tableValid : t.tableValid ≠ s.tableValid → t.status = .ok ∧
    (t.tableValid = true ∧ i ∈ [Instr.ctCommit, .ctLoadDefault, .reset] ∨
      t.tableValid = false ∧ i ∈ [Instr.ctSetCache, .ctWrite])
  readerActive : t.readerActive ≠ s.readerActive → t.status = .ok ∧
    (t.readerActive = true ∧ i = .rdStart ∨ t.readerActive = false ∧ i ∈ [Instr.winEnd, .reset])
  winActive : t.winActive ≠ s.winActive → t.status = .ok ∧
    (t.winActive = true ∧ i = .whParse ∨ t.winActive = false ∧ i ∈ [Instr.winEnd, .reset])
  decOpen : t.decOpen ≠ s.decOpen → t.status = .ok ∧ (t.decOpen = true ∧ i = .fhParse ∨ t.decOpen = false ∧ i = .reset)
  encOpen : t.encOpen ≠ s.encOpen → t.status = .ok ∧ (t.encOpen = true ∧ i = .fhWrite ∨ t.encOpen = false ∧ i = .reset)
  extSet : t.extAllowed = true → s.extAllowed = false → t.status = .ok ∧ i = .fhParse ∧ s.inp[s.a0 + 3]? = some 0x53
  extCleared : InvSession s → t.extAllowed = false → s.extAllowed = true → i = .reset
  sessionFailed : t.sessionFailed ≠ s.sessionFailed →
    t.sessionFailed = true ∧ readsStream i ∨ t.sessionFailed = false ∧ i = .reset
  pendingOp : t.pendingOp ≠ s.pendingOp → t.status = .ok ∧
    ((∃ op, t.pendingOp = some op ∧ isReaderGet i ∧ (firstHalf s.ct op.toNat).typ ≠ typNoop ∧
        (secondHalf s.ct op.toNat).typ ≠ typNoop ∧ t.res.r0 = w64 (firstHalf s.ct op.toNat).typ.toNat) ∨
      (t.pendingOp = none ∧ (isReaderGet i ∨ i ∈ [Instr.rdStart, .winEnd, .reset])))
  pushbackInst : t.pushbackInst ≠ s.pushbackInst → t.status = .ok ∧
    ((t.pushbackInst = s.lastInst ∧ i = .rdUnget) ∨
      (t.pushbackInst = none ∧ (isReaderGet i ∨ i ∈ [Instr.rdStart, .winEnd, .reset])))
  lastInst : t.lastInst ≠ s.lastInst → t.status = .ok ∧
    ((t.lastInst ≠ none ∧ isReaderGet i) ∨ (t.lastInst = none ∧ i ∈ [Instr.rdUnget, .rdStart, .winEnd, .reset]))

variable {s t : State} {i : Instr} {u : State}

/-- A parsed file header is extended exactly when its version byte is 0x53 (R332, R801). -/
theorem parseFileHeader_extended {p : Nat} {hd : FileHeader} (h : parseFileHeader s p = .ok hd) (hext : hd.extended = true) :
    s.inp[p + 3]? = some 0x53 := by
  simp only [parseFileHeader, bind_eq_ok, need_eq_ok] at h
  obtain ⟨_, _, _, _, _, _, ver, hver, _, _, _, _, _, _, _, _, h⟩ := h
  have hv : ver = versionExtended := by
    split at h
    · simp only [bind_eq_ok, pure_eq_ok, Except.ok.injEq] at h
      obtain ⟨_, _, rfl⟩ := h
      exact eq_of_beq hext
    · cases h
      exact eq_of_beq hext
  rw [hver, hv]
  rfl

/-- A half that leaves an opcode pending is the first half of that opcode's row, which is dual, and nothing was pending before (R603). -/
theorem nextHalf_found_pending {ct : List Host.Cell} {pending : Option Byte} {bytes : List Byte} {p q : Nat} {h : Half} {op : Byte}
    (hn : nextHalf ct pending bytes p = .found h (some op) q) :
    pending = none ∧ h = firstHalf ct op.toNat ∧ (firstHalf ct op.toNat).typ ≠ typNoop ∧ (secondHalf ct op.toNat).typ ≠ typNoop := by
  cases pending with
  | some o => simp at hn
  | none =>
    obtain ⟨_, o, _, _, _, _, rfl, hpend, _⟩ := (nextHalf_eq_found _ _ _ _ _ _).1 hn
    obtain ⟨rfl, h1, h2⟩ := pendingAfter_eq_some.1 hpend.symm
    exact ⟨rfl, by rw [returnedHalf, if_neg h1], h1, h2⟩

theorem flagFrame_ok (h : bodyOf i s = .ok u) : FlagFrame i s { u with status := .ok } := by
  revert i u
  apply ok_cases (s := s) (P := fun i u => FlagFrame i s { u with status := .ok })
  case wrAdd | wrRun | wrCopy =>
    intros
    rename_i hadd
    rw [addInstruction_frame hadd]
    constructor <;> simp +contextual
  case fhParse =>
    intro hd _ hclosed hhd
    constructor
    case extSet => exact fun hext _ => ⟨rfl, rfl, parseFileHeader_extended hhd hext⟩
    case extCleared => exact fun hinv _ hext => absurd (hinv.ext hext) (by simp [hclosed])
    all_goals simp
  case getPushback =>
    intro i r hget _ _ _ _
    constructor <;> simp +contextual [hget]
  case getHalf =>
    intro i bytes hf pend p sz q hget _ _ _ _ _ hfound _
    constructor
    case pendingOp =>
      intro _
      cases pend with
      | none => exact ⟨rfl, .inr ⟨rfl, .inl hget⟩⟩
      | some op =>
        obtain ⟨_, rfl, h1, h2⟩ := nextHalf_found_pending hfound
        exact ⟨rfl, .inl ⟨op, rfl, hget, h1, h2, rfl⟩⟩
    all_goals simp +contextual [hget]
  case reset => constructor <;> simp [State.afterReset, State.resetWith]
  all_goals
    intros
    constructor <;> simp +contextual [State.closeReader, State.clearWindow]

theorem flagFrame_exec (h : exec i s = .next t) : FlagFrame i s t := by
  obtain ⟨u, hu, rfl⟩ | ⟨st, _, rfl⟩ | ⟨st, _, hreads, rfl⟩ | ⟨_, _, rfl⟩ := exec_inversion h
  · exact flagFrame_ok hu
  · constructor <;> simp +contextual
  · constructor <;> simp +contextual [hreads]
  · constructor <;> simp +contextual

theorem flagBit_le (b : Bool) (pos : Nat) : flagBit b pos ≤ 2 ^ pos := by cases b <;> simp [flagBit]

/-- FLAGS is at most the sum of its ten bits: the reserved bits read 0 (R104). -/
theorem flags_lt (s : State) : s.flags < 2 ^ 10 := by
  have h0 := flagBit_le s.tableValid 0
  have h1 := flagBit_le s.readerActive 1
  have h2 := flagBit_le s.winActive 2
  have h3 := flagBit_le s.decOpen 3
  have h4 := flagBit_le s.encOpen 4
  have h5 := flagBit_le s.extAllowed 5
  have h6 := flagBit_le s.sessionFailed 6
  have h7 := flagBit_le s.pendingOp.isSome 7
  have h8 := flagBit_le s.pushbackInst.isSome 8
  have h9 := flagBit_le s.lastInst.isSome 9
  simp only [State.flags]
  omega

theorem flags_resetWith (cfg : Config) : (State.resetWith cfg).flags = 0x001 := by
  simp [State.flags, State.resetWith, flagBit]

end flags

/-- Settles O55: the flag frame of every instruction, row by row, and the reserved bits. -/
theorem flagWriters : Obligations.FlagWriters := by
  refine ⟨fun i s t h => ?_, flags_lt, flags_resetWith⟩
  have f := flagFrame_exec h
  exact ⟨f.tableValid, f.readerActive, f.winActive, f.decOpen, f.encOpen, f.extSet, f.extCleared, f.sessionFailed, f.pendingOp,
    f.pushbackInst, f.lastInst⟩

/-! What a parsed window header holds (`44_window_parser.md` R810 to R818). -/

section windowHeader

variable {s : State} {p q : Nat}

theorem field32_bounds {v : Nat} (h : field32 s p = .ok (v, q)) : v ≤ maxField ∧ q ≤ s.inLen := by
  obtain ⟨hdec, hv⟩ := (field32_eq_ok s p v q).1 h
  obtain ⟨_, _, _, hq, _⟩ := vdecLoop_ok hdec
  exact ⟨hv, hq⟩

theorem toNat_mod_four_of_low_bits {b : Byte} (h : ¬(b.getLsbD 0 = true ∧ b.getLsbD 1 = true)) : b.toNat % 4 ≠ 3 := by
  revert b
  decide

theorem checkIndicator_ok {wi : Byte} {x : Unit} (h : checkIndicator s wi = .ok x) : wi.toNat < 8 ∧ wi.toNat % 4 ≠ 3 := by
  simp only [checkIndicator, bind_eq_ok, check_eq_ok] at h
  obtain ⟨_, hrange, _, hbits, _⟩ := h
  exact ⟨by omega, toNat_mod_four_of_low_bits hbits⟩

theorem sourceSegment_sum_le {wi : Byte} {sl sp : Nat} (h : sourceSegment s wi p = .ok (sl, sp, q)) : sl + sp ≤ maxField := by
  unfold sourceSegment at h
  split at h
  · simp only [bind_eq_ok, Prod.exists, check_eq_ok, pure_eq_ok, Except.ok.injEq, Prod.mk.injEq] at h
    obtain ⟨_, _, _, _, _, _, _, hsum, _, _, rfl, rfl, _⟩ := h
    exact hsum
  · cases h
    exact Nat.zero_le _

theorem checkTargetSize_ok {tws : Nat} {x : Unit} (h : checkTargetSize s tws = .ok x) :
    s.decTargetTotal.toNat + tws ≤ s.maxFileSize.toNat := by
  simp only [checkTargetSize, bind_eq_ok, check_eq_ok] at h
  obtain ⟨_, _, htotal⟩ := h
  exact htotal

theorem checkDeltaIndicator_ok {di : Byte} {x : Unit} (h : checkDeltaIndicator di = .ok x) : di = 0 := by
  simp only [checkDeltaIndicator, bind_eq_ok, check_eq_ok] at h
  obtain ⟨_, hhigh, hlow⟩ := h
  exact BitVec.eq_of_toNat_eq (show di.toNat = 0 by omega)

theorem checksumField_next_le {wi : Byte} {ck : Nat} (hp : p ≤ s.inLen) (h : checksumField s wi p = .ok (ck, q)) : q ≤ s.inLen := by
  unfold checksumField at h
  split at h
  · obtain ⟨_, _, _, hq, _⟩ := vdecLoop_ok ((ck32_eq_ok s p ck q).1 h)
    exact hq
  · cases h
    exact hp

theorem layoutBits_bit0 (a b : Bool) : (layoutBits a b).getLsbD 0 = a := by revert a b; decide

/-- The W_ registers of a header whose fields passed their checks, when no position can wrap around. -/
theorem invWindow_windowRegs {wi : Byte} {sl sp dl il al q1 : Nat} (dlen tws ck : Nat) (hin : s.inLen ≤ 9223372036854775808)
    (hq : q1 ≤ s.inLen) (hwi : wi.toNat < 8 ∧ wi.toNat % 4 ≠ 3) (hsrc : sl + sp ≤ maxField)
    (hlen : dl ≤ maxField ∧ il ≤ maxField ∧ al ≤ maxField) :
    InvWindow { s with w := windowRegs s wi sl sp dlen tws 0 dl il al ck q1 } := by
  obtain ⟨hdl, hil, hal⟩ := hlen
  rw [maxField_eq] at hdl hil hal hsrc
  constructor
  case interleaved =>
    intro hbit
    simp only [windowRegs, WindowRegs.interleaved, layoutBits_bit0, Bool.and_eq_true, beq_iff_eq] at hbit
    obtain ⟨⟨hext, rfl⟩, rfl⟩ := hbit
    exact ⟨hext, rfl, rfl⟩
  case present => simp only [windowRegs, w64_toNat]; exact (Nat.mod_le _ _).trans hq
  case deltaInd => rfl
  all_goals simp only [windowRegs, w64_toNat, maxField_eq]; omega

/-- A parsed window header keeps the rules of the W_ registers and of the decode total (R813, R817, R818). -/
theorem parseWindowHeader_inv {w : WindowRegs} (hin : s.inLen ≤ 9223372036854775808) (h : parseWindowHeader s p = .ok w) :
    InvWindow { s with w := w } ∧ s.decTargetTotal.toNat + w.targetSize.toNat ≤ s.maxFileSize.toNat := by
  simp only [parseWindowHeader, bind_eq_ok, Prod.exists, check_eq_ok, pure_eq_ok, Except.ok.injEq] at h
  obtain ⟨wi, _, _, hwi, sl, sp, _, hsrc, dlen, _, _, tws, _, _, _, htws, di, _, _, hdi, dl, _, hdl, il, _, hil, al, _, hal, ck, q1,
    hck, _, _, rfl⟩ := h
  obtain ⟨hal, hp⟩ := field32_bounds hal
  obtain rfl := checkDeltaIndicator_ok hdi
  refine ⟨invWindow_windowRegs dlen tws ck hin (checksumField_next_le hp hck) (checkIndicator_ok hwi) (sourceSegment_sum_le hsrc)
    ⟨(field32_bounds hdl).1, (field32_bounds hil).1, hal⟩, ?_⟩
  have htotal := checkTargetSize_ok htws
  have hmod : (w64 tws).toNat ≤ tws := (w64_toNat tws).trans_le (Nat.mod_le _ _)
  simp only [windowRegs]
  omega

end windowHeader

/-! What RD_GET reads stays within the reader's range and is a record R118 allows (`42_reader.md` R603, R604). -/

section readerGet

variable {s : State} {ct : List Host.Cell} {pending pend : Option Byte} {bytes : List Byte} {h : Half} {p q : Nat}

theorem nextHalf_found_range (hn : nextHalf ct pending bytes p = .found h pend q) : p ≤ q ∧ q ≤ p + bytes.length := by
  cases pending with
  | some op =>
    rw [nextHalf_pending] at hn
    cases hn
    omega
  | none =>
    obtain ⟨skipped, op, rest, rfl, _, _, _, _, rfl⟩ := (nextHalf_eq_found _ _ _ _ _ _).1 hn
    simp only [List.length_append, List.length_cons]
    omega

/-- The half found is a half of some row, and not NOOP when the pending opcode's second half is not. -/
theorem nextHalf_found_half (hpend : ∀ op, pending = some op → (secondHalf ct op.toNat).typ ≠ typNoop)
    (hn : nextHalf ct pending bytes p = .found h pend q) :
    h.typ ≠ typNoop ∧ ∃ op : Byte, h = firstHalf ct op.toNat ∨ h = secondHalf ct op.toNat := by
  cases pending with
  | some op =>
    rw [nextHalf_pending] at hn
    cases hn
    exact ⟨hpend op rfl, op, .inr rfl⟩
  | none =>
    obtain ⟨_, op, _, _, _, hop, rfl, _, _⟩ := (nextHalf_eq_found _ _ _ _ _ _).1 hn
    refine ⟨returnedHalf_typ.2 hop, op, ?_⟩
    unfold returnedHalf
    split
    · exact .inr rfl
    · exact .inl rfl

theorem halfSize_bounds {sz : Nat} (hp : p ≤ s.rdEnd.toNat) (hs : halfSize s h p = .ok (sz, q)) :
    p ≤ q ∧ q ≤ s.rdEnd.toNat ∧ sz ≤ maxField := by
  obtain ⟨_, rfl, rfl⟩ | ⟨_, hdec, hsz⟩ := halfSize_ok hs
  · exact ⟨le_rfl, hp, h.size.isLt.le.trans (by decide)⟩
  · obtain ⟨hpq, hq, _⟩ := vdecLoop_ok hdec
    exact ⟨hpq.le, hq, hsz⟩

/-- A well-formed half that is not NOOP makes a record R118 allows. -/
theorem record_wf {maxMode sz : Nat} (ho : halfOk maxMode h = true) (hn : h.typ ≠ typNoop) (hsz : sz ≤ maxField) :
    InstRecord.wf maxMode { typ := h.typ, size := w64 sz, mode := h.mode } := by
  have hsize : (w64 sz).toNat ≤ maxField := ((w64_toNat sz).trans_le (Nat.mod_le _ _)).trans hsz
  rcases halfOk_shape ho hn with ⟨htyp, hmode⟩ | ⟨htyp, hmode⟩ | htyp
  · exact ⟨.inl htyp, hsize, hmode.trans_le (Nat.zero_le _), fun _ => BitVec.eq_of_toNat_eq hmode⟩
  · exact ⟨.inr (.inl htyp), hsize, hmode.trans_le (Nat.zero_le _), fun _ => BitVec.eq_of_toNat_eq hmode⟩
  · refine ⟨.inr (.inr htyp), hsize, ?_, fun hne => absurd htyp hne⟩
    simp only [halfOk, Bool.and_eq_true, Bool.or_eq_true, decide_eq_true_eq, bne_iff_ne] at ho
    exact ho.2.resolve_left (not_not_intro htyp)

end readerGet

/-! What the writer appends (`43_window_writer.md` R700 to R702). -/

section writerAppend

variable {s t : State} {typ : Byte} {sz mode : Nat} {e : Emitted} {p : Payload}

/-- The bytes of a payload, wherever it goes. -/
def Payload.bytes : Payload → List Byte
  | .toData bytes => bytes
  | .toAddrs bytes => bytes

theorem appendPayload_of_interleaved (p : Payload) (h : s.wrInterleaved = true) :
    s.appendPayload p = { s with insts := s.insts ++ p.bytes } := by
  cases p <;> simp [State.appendPayload, Payload.bytes, h]

theorem appendPayload_regionBytes (p : Payload) : (s.appendPayload p).regionBytes = s.regionBytes + p.bytes.length := by
  cases hi : s.wrInterleaved with
  | true =>
    rw [appendPayload_of_interleaved p hi]
    simp only [State.regionBytes, List.length_append]
    omega
  | false =>
    cases p
    all_goals
      simp only [State.appendPayload, hi, Bool.false_eq_true, if_false, State.regionBytes, Payload.bytes, List.length_append]
      omega

theorem appendPayload_insts_of_separate (p : Payload) (h : s.wrInterleaved = false) : (s.appendPayload p).insts = s.insts := by
  cases p <;> simp [State.appendPayload, h]

theorem appendPayload_insts_getElem? {pos : Nat} {f : Byte} (p : Payload) (h : s.insts[pos]? = some f) :
    (s.appendPayload p).insts[pos]? = some f := by
  cases hi : s.wrInterleaved with
  | false => rw [appendPayload_insts_of_separate p hi, h]
  | true =>
    rw [appendPayload_of_interleaved p hi]
    exact (List.getElem?_append_left (List.getElem?_eq_some_iff.1 h).1).trans h

theorem sizeBytes_pos {h : Half} (hz : h.size.toNat = 0 ∨ h.size = 0) : 0 < (sizeBytes h 0).length := by
  have hzero : h.size = 0 := hz.elim (fun h0 => BitVec.eq_of_toNat_eq h0) id
  rw [sizeBytes, if_pos hzero]
  exact venc_length_pos 0

/-- An ADD or RUN of mode 0, or a COPY: what the writer commands emit. -/
abbrev emittable (typ : Byte) (mode : Nat) : Prop := typ = typAdd ∧ mode = 0 ∨ typ = typRun ∧ mode = 0 ∨ typ = typCopy

/-- `emit` never shortens INSTS, and an instruction of size 0 lengthens it: by its opcode, or paired by its size varint. -/
theorem emit_length (ht : InvTable s) (hv : s.tableValid = true) (hk : emittable typ mode) (h : emit s typ sz mode = .ok e) :
    s.insts.length ≤ e.insts.length ∧ (sz = 0 → s.insts.length < e.insts.length) := by
  obtain ⟨pos, f, c, _, _, hc, rfl⟩ | ⟨o, _, rfl⟩ := emit_ok h
  · rw [ht.second hv, ht.first hv] at hc
    obtain ⟨_, _, _, _, _, hsize⟩ := secondLookup_row (ht.valid hv) hk hc
    simp only [List.length_append, List.length_set]
    refine ⟨by omega, ?_⟩
    rintro rfl
    have := sizeBytes_pos hsize
    omega
  · simp only [List.length_append, List.length_cons]
    omega

/-- `emit` leaves WR_LAST at a single opcode, or empty. -/
theorem emit_last (ht : InvTable s) (hv : s.tableValid = true) (hk : emittable typ mode) (h : emit s typ sz mode = .ok e) {pos : Nat}
    (hl : e.last = some pos) : ∃ f, e.insts[pos]? = some f ∧ (secondHalf s.ct f.toNat).typ = typNoop := by
  obtain ⟨_, _, _, _, _, _, rfl⟩ | ⟨o, ho, rfl⟩ := emit_ok h
  · cases hl
  · cases hl
    rw [ht.first hv] at ho
    obtain ⟨_, _, hnoop, _⟩ := firstLookup_row (ht.valid hv) hk ho
    exact ⟨o, by simp, hnoop⟩

/-- What WR_ADD, WR_RUN and WR_COPY leave keeps the writer's rules: each instruction takes at least one byte of the regions, so the
count cannot wrap around. -/
theorem addInstruction_invWriter (h : Inv s) (hopen : s.encOpen = true) (hv : s.tableValid = true) (hk : emittable typ mode)
    (hp : sz ≠ 0 → 0 < p.bytes.length) (hadd : addInstruction s typ sz mode p = .ok t) : InvWriter t := by
  obtain ⟨hconfig, htable, _, _, _, _, hw⟩ := h
  obtain ⟨htarget, e, he, ht, hcap⟩ := addInstruction_ok hadd
  have hframe := addInstruction_frame hadd
  have hcount : t.wrInstCount = s.wrInstCount + 1 := by rw [ht]
  have hlen : t.wrTargetLen = w64 (s.wrTargetLen.toNat + sz) := by rw [ht]
  have hlast : t.wrLast = e.last := by rw [ht, appendPayload_eq]
  have hgrow : s.regionBytes < t.regionBytes := by
    have hbytes : t.regionBytes = s.data.length + e.insts.length + s.addrs.length + p.bytes.length := by
      rw [ht]; exact appendPayload_regionBytes p
    obtain ⟨hle, hlt⟩ := emit_length htable hv hk he
    simp only [State.regionBytes] at hbytes ⊢
    omega
  have hnext : t.wrInstCount.toNat = s.wrInstCount.toNat + 1 := by
    obtain ⟨_, _, _, hbound⟩ := hconfig.cfg
    have hle := hw.count.trans hw.capacity
    rw [hcount, BitVec.toNat_add]
    exact Nat.mod_eq_of_lt (show s.wrInstCount.toNat + 1 < 2 ^ 64 by omega)
  constructor
  case empty => exact fun h0 => absurd (hnext.symm.trans (congrArg BitVec.toNat h0)) (Nat.succ_ne_zero _)
  case used => exact fun _ => by rw [hframe]; exact ⟨hopen, hv⟩
  case capacity => rw [show t.cfg = s.cfg by rw [hframe]]; exact hcap
  case count => have := hw.count; omega
  case target => rw [hlen, w64_toNat]; exact (Nat.mod_le _ _).trans htarget
  case last =>
    intro pos hpos
    obtain ⟨f, hf, hnoop⟩ := emit_last htable hv hk he (hlast.symm.trans hpos)
    refine ⟨f, ?_, by rw [hframe]; exact hnoop⟩
    rw [ht]
    exact appendPayload_insts_getElem? p hf
  case oneRegion =>
    intro hi
    have hi : s.wrInterleaved = true := by rw [hframe] at hi; exact hi
    rw [ht, appendPayload_of_interleaved (s := { s with insts := e.insts, wrLast := e.last }) p hi]
    exact hw.oneRegion hi

end writerAppend

/-! Each part of the invariant is kept by every command that ends OK: the commands that write what the part speaks of, one case
each, and the others, which leave it as it was. -/

section invariantParts

variable {s t : State} {i : Instr} {u : State}

theorem invConfig_ok (h : InvConfig s) (hu : bodyOf i s = .ok u) : InvConfig u := by
  revert i u
  apply ok_cases (s := s) (P := fun _ u => InvConfig u)
  case wrAdd | wrRun | wrCopy =>
    intros
    rename_i hadd
    rw [addInstruction_frame hadd]
    exact ⟨h.cfg, h.inLen⟩
  case inAppend =>
    intro hroom
    refine ⟨h.cfg, ?_⟩
    simp only [setRes0_inp, inAppend_inp, List.length_append, List.length_singleton]
    exact hroom
  case reset => exact ⟨h.cfg, Nat.zero_le _⟩
  all_goals
    intros
    exact ⟨h.cfg, h.inLen⟩

/-- IN_LEN fits a register with room to spare (R102, R115). -/
theorem inLen_le (h : InvConfig s) : s.inLen ≤ 9223372036854775808 := by
  obtain ⟨_, hsize, _⟩ := h.cfg
  exact h.inLen.trans hsize

theorem invLimits_ok (h : InvLimits s) (hu : bodyOf i s = .ok u) : InvLimits u := by
  revert i u
  apply ok_cases (s := s) (P := fun _ u => InvLimits u)
  case wrAdd | wrRun | wrCopy =>
    intros
    rename_i hadd
    rw [addInstruction_frame hadd]
    exact ⟨h.dictSize, h.maxWindowSize, h.maxFileSize⟩
  case regWriteDict => exact fun v hv _ _ => ⟨hv, h.maxWindowSize, h.maxFileSize⟩
  case regWriteWindow => exact fun v hv _ => ⟨h.dictSize, hv, h.maxFileSize⟩
  case regWriteFile => exact fun v hv _ => ⟨h.dictSize, h.maxWindowSize, hv⟩
  case reset => constructor <;> simp only [State.afterReset, State.resetWith] <;> decide
  all_goals
    intros
    exact ⟨h.dictSize, h.maxWindowSize, h.maxFileSize⟩

/-- The default table with its maps and cache sizes (R320, R1100). -/
theorem invTable_of_default (hct : t.ct = defaultCt) (hnear : t.nearSize = w64 defaultNear) (hsame : t.sameSize = w64 defaultSame)
    (hfirst : t.first = buildFirst defaultCt) (hsecond : t.second = buildSecond defaultCt (buildFirst defaultCt)) : InvTable t where
  canonical := by rw [hct]; rfl
  caches := by rw [hnear, hsame]; decide
  valid _ := by rw [State.maxMode, hct, hnear, hsame]; decide +kernel
  first _ := by rw [hfirst, hct]
  second _ := by rw [hsecond, hfirst, hct]

theorem invTable_ok (h : InvTable s) (hu : bodyOf i s = .ok u) : InvTable u := by
  revert i u
  apply ok_cases (s := s) (P := fun _ u => InvTable u)
  case wrAdd | wrRun | wrCopy =>
    intros
    rename_i hadd
    rw [addInstruction_frame hadd]
    exact ⟨h.canonical, h.caches, h.valid, h.first, h.second⟩
  case ctLoadDefault => exact fun _ _ => by apply invTable_of_default <;> dsimp only
  case ctSetCache => exact fun _ _ hsum => ⟨h.canonical, hsum, nofun, nofun, nofun⟩
  case ctWrite => exact fun _ _ ha hr _ => ⟨ctSet_wf ha hr _ h.canonical, h.caches, nofun, nofun, nofun⟩
  case ctCommit => exact fun hvalid => ⟨h.canonical, h.caches, fun _ => hvalid, fun _ => by dsimp only, fun _ => by dsimp only⟩
  case reset => apply invTable_of_default <;> simp only [State.afterReset, State.resetWith]
  all_goals
    intros
    exact ⟨h.canonical, h.caches, h.valid, h.first, h.second⟩

theorem invSession_ok (h : Inv s) (hu : bodyOf i s = .ok u) : InvSession u := by
  obtain ⟨hconfig, _, _, h, _, _, _⟩ := h
  revert i u
  apply ok_cases (s := s) (P := fun _ u => InvSession u)
  case wrAdd | wrRun | wrCopy =>
    intros
    rename_i hadd
    rw [addInstruction_frame hadd]
    exact ⟨h.ext, h.win, h.closed, h.total, h.window⟩
  case regWriteFile =>
    intro v _ hfrozen
    have hkeep : s.decOpen = true → v = s.maxFileSize := fun hopen => by
      by_contra hne
      exact absurd (hopen.symm.trans (hfrozen hne)) (by decide)
    refine ⟨h.ext, h.win, h.closed, ?_, fun hwin => ?_⟩
    · cases hopen : s.decOpen with
      | false => simp [h.closed hopen]
      | true => rw [hkeep hopen]; exact h.total
    · rw [hkeep (h.win hwin)]
      exact h.window hwin
  case fhParse => exact fun hd _ _ _ => ⟨fun _ => rfl, fun _ => rfl, nofun, h.total, h.window⟩
  case whParse =>
    intro w _ hopen _ hw
    obtain ⟨_, htotal⟩ := parseWindowHeader_inv (inLen_le hconfig) hw
    exact ⟨h.ext, fun _ => hopen, h.closed, h.total, fun _ => htotal⟩
  case winEnd =>
    intro _ hwin _ _ _ _
    refine ⟨h.ext, nofun, fun hclosed => absurd (hclosed.symm.trans (h.win hwin)) (by decide), ?_, nofun⟩
    exact ((w64_toNat _).trans_le (Nat.mod_le _ _)).trans (h.window hwin)
  case reset => constructor <;> simp [State.afterReset, State.resetWith]
  all_goals
    intros
    exact ⟨h.ext, h.win, h.closed, h.total, h.window⟩

theorem invWindow_ok (h : Inv s) (hu : bodyOf i s = .ok u) : InvWindow u := by
  obtain ⟨hconfig, _, _, hsession, h, _, _⟩ := h
  revert i u
  apply ok_cases (s := s) (P := fun _ u => InvWindow u)
  case wrAdd | wrRun | wrCopy =>
    intros
    rename_i hadd
    rw [addInstruction_frame hadd]
    exact ⟨h.present, h.lengths, h.instStart, h.addrStart, h.windowEnd, h.source, h.indicator, h.deltaInd, h.interleaved⟩
  case fhParse =>
    intro hd _ hclosed _
    have hflat : s.w.interleaved = true → False := fun hi =>
      absurd (hclosed.symm.trans (hsession.ext (h.interleaved hi).1)) (by decide)
    exact ⟨h.present, h.lengths, h.instStart, h.addrStart, h.windowEnd, h.source, h.indicator, h.deltaInd, fun hi => (hflat hi).elim⟩
  case whParse =>
    intro w _ _ _ hw
    obtain ⟨h, _⟩ := parseWindowHeader_inv (inLen_le hconfig) hw
    exact ⟨h.present, h.lengths, h.instStart, h.addrStart, h.windowEnd, h.source, h.indicator, h.deltaInd, h.interleaved⟩
  case inAppend =>
    intro _
    refine ⟨h.present.trans ?_, h.lengths, h.instStart, h.addrStart, h.windowEnd, h.source, h.indicator, h.deltaInd, h.interleaved⟩
    simp [State.inLen]
  case reset => constructor <;> simp [State.afterReset, State.resetWith, WindowRegs.reset, WindowRegs.interleaved]
  all_goals
    intros
    exact ⟨h.present, h.lengths, h.instStart, h.addrStart, h.windowEnd, h.source, h.indicator, h.deltaInd, h.interleaved⟩

/-- An inactive reader whose optional registers are empty. -/
theorem invReader_of_idle (hidle : t.readerActive = false) (hpend : t.pendingOp = none) (hpush : t.pushbackInst = none)
    (hlast : t.lastInst = none) : InvReader t := by
  constructor <;> simp [hidle, hpend, hpush, hlast]

/-- RD_GET with no pushed-back record: the position stays in the reader's range, and the record and the pending opcode are of the
committed table. -/
theorem invReader_getHalf {bytes : List Byte} {hf : Half} {pend : Option Byte} {p sz q : Nat} (h : Inv s)
    (hl : bytes.length = s.unread.length) (hact : s.readerActive = true) (hpush : s.pushbackInst = none)
    (hfound : nextHalf s.ct s.pendingOp bytes s.rdPos.toNat = .found hf pend p) (hsize : halfSize s hf p = .ok (sz, q)) :
    InvReader { s with
      rdPos := w64 q, pendingOp := pend, lastInst := some { typ := hf.typ, size := w64 sz, mode := hf.mode } } := by
  obtain ⟨_, htable, _, _, _, h, _⟩ := h
  obtain ⟨hwin, hvalid⟩ := h.bound hact
  obtain ⟨hstart, hpos, hend, hin⟩ := h.range hact
  obtain ⟨hle, hlast⟩ := nextHalf_found_range hfound
  obtain ⟨hq, hqend, hsz⟩ := halfSize_bounds (p := p) (by rw [hl, unread_length] at hlast; omega) hsize
  obtain ⟨hnoop, op, hrow⟩ := nextHalf_found_half h.pending hfound
  have hq64 : (w64 q).toNat = q := w64_toNat_of_lt (hqend.trans_lt s.rdEnd.isLt)
  constructor
  case bound => exact fun _ => ⟨hwin, hvalid⟩
  case range => exact fun _ => ⟨(show s.w.instStart.toNat ≤ q by omega).trans_eq hq64.symm, hq64.trans_le hqend, hend, hin⟩
  case idle => exact fun hidle => absurd (hact.symm.trans hidle) (by decide)
  case pushback => exact fun hne => absurd hpush hne
  case pending =>
    rintro o rfl
    obtain ⟨_, _, _, hsecond⟩ := nextHalf_found_pending hfound
    exact hsecond
  case records =>
    rintro r (hr | hr)
    · exact absurd (hpush.symm.trans hr) nofun
    · cases hr
      obtain ⟨hok1, hok2⟩ := validate_half (htable.valid hvalid) op
      exact record_wf (by rcases hrow with rfl | rfl <;> assumption) hnoop hsz

theorem invReader_ok (h : Inv s) (hu : bodyOf i s = .ok u) : InvReader u := by
  have hinv := h
  obtain ⟨_, _, _, _, _, h, _⟩ := h
  revert i u
  apply ok_cases (s := s) (P := fun _ u => InvReader u)
  case wrAdd | wrRun | wrCopy =>
    intros
    rename_i hadd
    rw [addInstruction_frame hadd]
    exact ⟨h.bound, h.range, h.idle, h.pushback, h.pending, h.records⟩
  case ctLoadDefault | ctSetCache | ctWrite =>
    intro hidle
    intros
    obtain ⟨hpend, hpush, hlast⟩ := h.idle hidle
    exact invReader_of_idle hidle hpend hpush hlast
  case ctCommit => exact fun _ => ⟨fun hact => ⟨(h.bound hact).1, rfl⟩, h.range, h.idle, h.pushback, h.pending, h.records⟩
  case rdStart =>
    intro _ hwin hvalid hstart hle hlimit
    exact ⟨fun _ => ⟨hwin, hvalid⟩, fun _ => ⟨hstart, hle, hlimit.trans (min_le_left _ _), hlimit.trans (min_le_right _ _)⟩, nofun,
      fun _ => rfl, nofun, nofun⟩
  case rdExtend =>
    intro _ hact hle hlimit
    obtain ⟨hstart, hpos, _, _⟩ := h.range hact
    exact ⟨h.bound, fun _ => ⟨hstart, hpos.trans hle, hlimit.trans (min_le_left _ _), hlimit.trans (min_le_right _ _)⟩, h.idle,
      h.pushback, h.pending, h.records⟩
  case rdSeek =>
    intro _ hact hle hlimit
    obtain ⟨hstart, _, hend, hin⟩ := h.range hact
    exact ⟨h.bound, fun _ => ⟨hstart.trans hle, hlimit, hend, hin⟩, h.idle, h.pushback, h.pending, h.records⟩
  case getPushback =>
    intro _ r _ _ hact _ hpush
    refine ⟨h.bound, h.range, fun hidle => absurd (hact.symm.trans hidle) (by decide), nofun, h.pending, ?_⟩
    rintro r' (hr | hr)
    · cases hr
    · cases hr
      exact h.records r (.inl hpush)
  case getHalf =>
    intro _ bytes hf pend p sz q _ hl _ hact _ hpush hfound hsize
    have h := invReader_getHalf hinv hl hact hpush hfound hsize
    exact ⟨h.bound, h.range, h.idle, h.pushback, h.pending, h.records⟩
  case rdUnget =>
    intro _ hact _ _
    refine ⟨h.bound, h.range, fun hidle => absurd (hact.symm.trans hidle) (by decide), fun _ => rfl, h.pending, ?_⟩
    rintro r (hr | hr)
    · exact h.records r (.inr hr)
    · cases hr
  case whParse =>
    intro w _ _ hwin _
    have hidle : s.readerActive = false :=
      Bool.eq_false_iff.2 fun hact => absurd (hwin.symm.trans (h.bound hact).1) (by decide)
    obtain ⟨hpend, hpush, hlast⟩ := h.idle hidle
    exact invReader_of_idle hidle hpend hpush hlast
  case winEnd | reset =>
    intros
    exact invReader_of_idle rfl rfl rfl rfl
  case inAppend =>
    intro _
    refine ⟨h.bound, fun hact => ?_, h.idle, h.pushback, h.pending, h.records⟩
    obtain ⟨hstart, hpos, hend, hin⟩ := h.range hact
    exact ⟨hstart, hpos, hend, hin.trans (by simp [State.inLen])⟩
  all_goals
    intros
    exact ⟨h.bound, h.range, h.idle, h.pushback, h.pending, h.records⟩

/-- A writer with nothing in its window. -/
theorem invWriter_of_empty (hcount : t.wrInstCount = 0) (hdata : t.data = []) (hinsts : t.insts = []) (haddrs : t.addrs = [])
    (hlast : t.wrLast = none) (hlen : t.wrTargetLen = 0) : InvWriter t := by
  constructor <;> simp [hcount, hdata, hinsts, haddrs, hlast, hlen, State.regionBytes]

theorem address_length_pos (s : State) (mode addr : Nat) : 0 < (addressBytes s mode addr).length := by
  unfold addressBytes
  split
  · exact Nat.one_pos
  · exact venc_length_pos addr

theorem invWriter_ok (h : Inv s) (hu : bodyOf i s = .ok u) : InvWriter u := by
  have hinv := h
  obtain ⟨_, _, _, _, _, _, h⟩ := h
  revert i u
  apply ok_cases (s := s) (P := fun _ u => InvWriter u)
  case wrAdd =>
    intro u hopen hvalid hin hadd
    refine addInstruction_invWriter hinv hopen hvalid (.inl ⟨rfl, rfl⟩) (fun hne => ?_) hadd
    simp only [Payload.bytes, List.length_take, List.length_drop]
    simp only [State.inLen] at hin
    omega
  case wrRun => exact fun u hopen hvalid _ _ =>
    addInstruction_invWriter hinv hopen hvalid (.inr (.inl ⟨rfl, rfl⟩)) fun _ => Nat.one_pos
  case wrCopy => exact fun u hopen hvalid _ _ _ =>
    addInstruction_invWriter hinv hopen hvalid (.inr (.inr rfl)) fun _ => address_length_pos s _ _
  case ctLoadDefault | ctSetCache | ctWrite =>
    intro _ hnone
    intros
    obtain ⟨hdata, hinsts, haddrs, hlast, hlen⟩ := h.empty hnone
    exact invWriter_of_empty hnone hdata hinsts haddrs hlast hlen
  case ctCommit => exact fun _ =>
    ⟨h.empty, fun hne => ⟨(h.used hne).1, rfl⟩, h.capacity, h.count, h.target, h.last, h.oneRegion⟩
  case wrOutput | wrDiscard | reset =>
    intros
    exact invWriter_of_empty rfl rfl rfl rfl rfl rfl
  case fhWrite => exact fun _ _ _ _ =>
    ⟨h.empty, fun hne => ⟨rfl, (h.used hne).2⟩, h.capacity, h.count, h.target, h.last, h.oneRegion⟩
  case regWriteCtrl =>
    intro new _ hfrozen
    refine ⟨h.empty, h.used, h.capacity, h.count, h.target, h.last, fun hnew => ?_⟩
    by_cases hsame : new.getLsbD 0 = s.ctrl.getLsbD 0
    · exact h.oneRegion (hsame.symm.trans hnew)
    · obtain ⟨hdata, _, haddrs, _⟩ := h.empty (hfrozen (.inl hsame)).2
      exact ⟨hdata, haddrs⟩
  all_goals
    intros
    exact ⟨h.empty, h.used, h.capacity, h.count, h.target, h.last, h.oneRegion⟩

theorem inv_ok (h : Inv s) (hu : bodyOf i s = .ok u) : Inv u where
  config := invConfig_ok h.config hu
  table := invTable_ok h.table hu
  limits := invLimits_ok h.limits hu
  session := invSession_ok h hu
  window := invWindow_ok h hu
  reader := invReader_ok h hu
  writer := invWriter_ok h hu

end invariantParts

/-! The invariant over a whole instruction and over a step. -/

section invariantStep

variable {s t : State} {i : Instr}

/-- The invariant speaks of no port, no status, SESSION_FAILED or field of the host, and of RD_POS in the reader's part only. -/
theorem inv_observed (h : Inv s) {pos : Word} (hreader : InvReader { s with rdPos := pos }) (arg : Quad) (cmd : Byte)
    (st : Status) (failed : Bool) (accesses : List HostAccess) (answer : Word) (reads : Nat) :
    Inv { s with
      rdPos := pos, arg := arg, cmd := cmd, status := st, sessionFailed := failed, host := accesses, hostData := answer,
      freeReads := reads } := by
  obtain ⟨hc, ht, hl, hs, hw, _, hwr⟩ := h
  exact
    { config := ⟨hc.cfg, hc.inLen⟩
      table := ⟨ht.canonical, ht.caches, ht.valid, ht.first, ht.second⟩
      limits := ⟨hl.dictSize, hl.maxWindowSize, hl.maxFileSize⟩
      session := ⟨hs.ext, hs.win, hs.closed, hs.total, hs.window⟩
      window := ⟨hw.present, hw.lengths, hw.instStart, hw.addrStart, hw.windowEnd, hw.source, hw.indicator, hw.deltaInd,
        hw.interleaved⟩
      reader := ⟨hreader.bound, hreader.range, hreader.idle, hreader.pushback, hreader.pending, hreader.records⟩
      writer := ⟨hwr.empty, hwr.used, hwr.capacity, hwr.count, hwr.target, hwr.last, hwr.oneRegion⟩ }

/-- An RD_GET that runs out of bytes leaves RD_POS at the end of its range (R604). -/
theorem invReader_exhausted (h : InvReader s) (hact : s.readerActive = true) :
    InvReader { s with rdPos := w64 (s.rdPos.toNat + s.unread.length) } := by
  obtain ⟨hstart, hpos, hend, hin⟩ := h.range hact
  have hreach : s.rdPos.toNat + s.unread.length = s.rdEnd.toNat := by
    rw [unread_length]
    omega
  rw [hreach, w64_of_toNat]
  exact ⟨h.bound, fun _ => ⟨hstart.trans hpos, le_rfl, hend, hin⟩, h.idle, h.pushback, h.pending, h.records⟩

theorem inv_exec (h : Inv s) (he : exec i s = .next t) : Inv t := by
  obtain ⟨u, hu, rfl⟩ | ⟨st, _, rfl⟩ | ⟨st, _, _, rfl⟩ | ⟨_, hact, rfl⟩ := exec_inversion he
  · have hok := inv_ok h hu
    exact inv_observed hok hok.reader _ _ _ _ _ _ _
  · exact inv_observed h h.reader _ _ _ _ _ _ _
  · exact inv_observed h h.reader _ _ _ _ _ _ _
  · exact inv_observed h (invReader_exhausted h.reader hact) _ _ _ _ _ _ _

end invariantStep

/-- Settles O60: a step is a command at a state with the write taken, an unknown code, or an access; the first keeps the invariant
by `inv_exec`, the others touch nothing it speaks of. -/
theorem invStep : Obligations.InvStep := by
  intro s t h hstep
  obtain ⟨code, rest, i, _, _, hexec⟩ | ⟨code, rest, _, _, rfl⟩ | ⟨rest, arg, data, reads, rfl⟩ := step_cases hstep
  · exact inv_exec (inv_observed h h.reader _ _ _ _ _ _ _) hexec
  · exact inv_observed h h.reader _ _ _ _ _ _ _
  · exact inv_observed h h.reader _ _ _ _ _ _ _

end Sys2Proof.Machine

/-! The statements of the family `20_memory.md`: the table invariant (O59), table-write coherence (O30), and what an instruction and a
step may change in IN, OUT and CT (O53, O54, O57). -/

namespace Sys2Proof.Machine

/-! The table invariant over a whole instruction and over a step. -/

section tableInvariant

variable {s t : State} {i : Instr}

/-- The table invariant speaks of no port, no status, SESSION_FAILED, RD_POS or field of the host. -/
theorem invTable_observed (h : InvTable s) (pos : Word) (arg : Quad) (cmd : Byte) (st : Status) (failed : Bool)
    (accesses : List HostAccess) (answer : Word) (reads : Nat) :
    InvTable { s with
      rdPos := pos, arg := arg, cmd := cmd, status := st, sessionFailed := failed, host := accesses, hostData := answer,
      freeReads := reads } :=
  ⟨h.canonical, h.caches, h.valid, h.first, h.second⟩

theorem invTable_exec (h : InvTable s) (he : exec i s = .next t) : InvTable t := by
  obtain ⟨u, hu, rfl⟩ | ⟨st, _, rfl⟩ | ⟨st, _, _, rfl⟩ | ⟨_, _, rfl⟩ := exec_inversion he
  · exact invTable_observed (invTable_ok h hu) _ _ _ _ _ _ _ _
  all_goals exact invTable_observed h _ _ _ _ _ _ _ _

end tableInvariant

/-- Settles O59: a command keeps the table invariant by `invTable_exec`; an unknown code and the other accesses touch nothing it
speaks of. -/
theorem invTableStep : Obligations.InvTableStep := by
  intro s t h hstep
  obtain ⟨code, rest, i, _, _, hexec⟩ | ⟨code, rest, _, _, rfl⟩ | ⟨rest, arg, data, reads, rfl⟩ := step_cases hstep
  · exact invTable_exec (invTable_observed h _ _ _ _ _ _ _ _) hexec
  all_goals exact invTable_observed h _ _ _ _ _ _ _ _

/-! How a command is refused for the state of the table, the reader or the writer (`20_memory.md` R212, `41_codetable.md` R515). -/

section refusals

variable {s t : State} {i : Instr}

theorem exec_of_plain {st : Status} (h : bodyOf i s = .error (.plain st)) : exec i s = .next { s with status := st } := by
  rw [exec_eq, h]
  rfl

theorem writerGate_uncommitted (h : s.tableValid = false) : writerGate s = .error (.plain .stateError) := by
  cases hopen : s.encOpen <;> simp [writerGate, check, h, hopen]

theorem ctMutable_busy (h : s.readerActive = true ∨ s.wrInstCount ≠ 0) : ctMutable s = .error (.plain .stateError) :=
  check_of_not (by rintro ⟨hidle, hnone⟩; simp [hidle, hnone] at h) _

theorem rdGetOn_uncommitted {bytes : List Byte} (hsession : s.sessionFailed = false) (h : s.tableValid = false) :
    rdGetOn bytes s = .error (.plain .stateError) := by
  simp [rdGetOn, sessionGate, check, hsession, h]

/-- The lookups and the writer's commands refuse an uncommitted table before anything else but ENC_OPEN, which refuses alike. -/
theorem bodyOf_uncommitted (h : s.tableValid = false) (hi : i ∈ [Instr.mapFirst, .mapSecond, .wrAdd, .wrRun, .wrCopy]) :
    bodyOf i s = .error (.plain .stateError) := by
  simp only [List.mem_cons, List.not_mem_nil, or_false] at hi
  obtain rfl | rfl | rfl | rfl | rfl := hi
  · simp [bodyOf, mapFirstBody, check, h]
  · simp [bodyOf, mapSecondBody, check, h]
  · simp [bodyOf, wrAddBody, writerGate_uncommitted h]
  · simp [bodyOf, wrRunBody, writerGate_uncommitted h]
  · simp [bodyOf, wrCopyBody, writerGate_uncommitted h]

/-- So do RD_START and RD_GET, once the session has not failed. -/
theorem bodyOf_reader_uncommitted (h : s.tableValid = false) (hsession : s.sessionFailed = false) (hi : i = .rdStart ∨ isReaderGet i) :
    bodyOf i s = .error (.plain .stateError) := by
  obtain rfl | hget := hi
  · simp [bodyOf, rdStartBody, sessionGate, check, hsession, h]
  · obtain ⟨bytes, hbody, _⟩ := bodyOf_readerGet s hget
    rw [hbody, rdGetOn_uncommitted hsession h]

/-- The commands that rewrite the table are refused while the reader or the writer is using it. -/
theorem bodyOf_busy (h : s.readerActive = true ∨ s.wrInstCount ≠ 0) (hi : i ∈ [Instr.ctWrite, .ctSetCache, .ctLoadDefault]) :
    bodyOf i s = .error (.plain .stateError) := by
  simp only [List.mem_cons, List.not_mem_nil, or_false] at hi
  obtain rfl | rfl | rfl := hi
  · simp [bodyOf, ctWriteBody, ctMutable_busy h]
  · simp [bodyOf, ctSetCacheBody, ctMutable_busy h]
  · simp [bodyOf, ctLoadDefaultBody, ctMutable_busy h]

end refusals

/-! What sets and clears TABLE_VALID (`20_memory.md` R212). -/

section tableValid

variable {s t : State} {i : Instr}

/-- A command that ends OK ran its body to the end. -/
theorem bodyOf_of_exec_ok (h : exec i s = .next t) (hok : t.status = .ok) :
    ∃ u, bodyOf i s = .ok u ∧ t = { u with status := .ok } := by
  obtain hu | ⟨st, hst, rfl⟩ | ⟨st, hst, _, rfl⟩ | ⟨_, _, rfl⟩ := exec_inversion h
  · exact hu
  · exact absurd hok hst
  · exact absurd hok hst
  · cases hok

theorem tableValid_of_write_ok (h : exec i s = .next t) (hi : i = .ctWrite ∨ i = .ctSetCache) (hok : t.status = .ok) :
    t.tableValid = false := by
  obtain ⟨u, hu, rfl⟩ := bodyOf_of_exec_ok h hok
  obtain rfl | rfl := hi
  · obtain ⟨_, _, _, rfl⟩ := ctWriteBody_ok.1 hu
    rfl
  · obtain ⟨_, _, rfl⟩ := ctSetCacheBody_ok.1 hu
    rfl

/-- The commands that set TABLE_VALID build both maps from the table they leave. -/
theorem maps_of_setter_ok (h : exec i s = .next t) (hi : i = .ctCommit ∨ i = .ctLoadDefault ∨ i = .reset) (hok : t.status = .ok) :
    t.first = buildFirst t.ct ∧ t.second = buildSecond t.ct t.first := by
  obtain ⟨u, hu, rfl⟩ := bodyOf_of_exec_ok h hok
  obtain rfl | rfl | rfl := hi
  · obtain ⟨_, rfl⟩ := ctCommitBody_ok.1 hu
    exact ⟨by dsimp only, by dsimp only⟩
  · obtain ⟨_, rfl⟩ := ctLoadDefaultBody_ok.1 hu
    exact ⟨by dsimp only, by dsimp only⟩
  · cases hu
    constructor <;> simp only [State.afterReset, State.resetWith]

end tableValid

/-- Settles O30: the writes clear TABLE_VALID, its readers and the writes are refused as R212 and R515 say, and R104's row for the flag
(`FlagFrame.tableValid`) names the commands that set it. -/
theorem tableCoherence : Obligations.TableCoherence := by
  refine ⟨fun i s t h hi hok => tableValid_of_write_ok h hi hok, fun i s hv hi => exec_of_plain (bodyOf_uncommitted hv hi),
    fun i s hv hsession hi => exec_of_plain (bodyOf_reader_uncommitted hv hsession hi),
    fun i s hbusy hi => exec_of_plain (bodyOf_busy hbusy hi), fun i s t h hs ht => ?_⟩
  obtain ⟨hok, ⟨_, hi⟩ | ⟨hclear, _⟩⟩ := (flagFrame_exec h).tableValid (by simp [hs, ht])
  · have hi : i = .ctCommit ∨ i = .ctLoadDefault ∨ i = .reset := by simpa using hi
    exact ⟨hi, maps_of_setter_ok h hi hok⟩
  · exact absurd (ht.symm.trans hclear) (by decide)

/-! What each instruction may do to the bytes of IN, OUT and CT (`20_memory.md` R200 to R203). -/

section memories

/-- What instruction `i` may have done to the three byte memories between `s` and `t`; which instructions change CT at all is
`RegisterFrame.table`. -/
structure MemoryFrame (i : Instr) (s t : State) : Prop where
  inp : (i = .reset ∧ t.inp = []) ∨
    (i = .inAppend ∧ t.status = .ok ∧ t.inp = s.inp ++ [BitVec.ofNat 8 s.a0]) ∨
    (i ≠ .reset ∧ t.inp = s.inp)
  out : i ≠ .reset → ∃ bytes, t.out = s.out ++ bytes ∧
    (bytes ≠ [] → t.status = .ok ∧ t.res.r0 = w64 bytes.length ∧
      (i = .venc32 ∨ i = .venc64 ∨ i = .wrOutput ∨ i = .fhWrite))
  ctWrite : i = .ctWrite → ∀ a, a ≠ ctAddr s.a0 s.a1 → t.readByte .ct a = s.readByte .ct a

variable {s t : State} {i : Instr} {u : State}

theorem readByte_ct_of_eq (h : t.ct = s.ct) (a : Nat) : t.readByte .ct a = s.readByte .ct a := by
  simp only [State.readByte, h]

theorem readByte_out_of_eq (h : t.out = s.out) (a : Nat) : t.readByte .out a = s.readByte .out a := by
  simp only [State.readByte, h]

theorem readByte_inp_of_eq (h : t.inp = s.inp) (a : Nat) : t.readByte .inp a = s.readByte .inp a := by
  simp only [State.readByte, h]

/-- An instruction that leaves the three memories equal. -/
theorem memoryFrame_of_eq (hi : i ≠ .reset) (hinp : t.inp = s.inp) (hout : t.out = s.out) (hct : t.ct = s.ct) : MemoryFrame i s t where
  inp := .inr (.inr ⟨hi, hinp⟩)
  out _ := ⟨[], by simpa using hout, nofun⟩
  ctWrite _ a _ := readByte_ct_of_eq hct a

/-- A command that appends to OUT and counts the bytes in RES0. -/
theorem memoryFrame_of_append (hi : i = .venc32 ∨ i = .venc64 ∨ i = .wrOutput ∨ i = .fhWrite) {bytes : List Byte}
    (hinp : t.inp = s.inp) (hout : t.out = s.out ++ bytes) (hct : t.ct = s.ct) (hok : t.status = .ok)
    (hres : t.res.r0 = w64 bytes.length) : MemoryFrame i s t where
  inp := .inr (.inr ⟨by rcases hi with rfl | rfl | rfl | rfl <;> decide, hinp⟩)
  out _ := ⟨bytes, hout, fun _ => ⟨hok, hres, hi⟩⟩
  ctWrite _ a _ := readByte_ct_of_eq hct a

/-- An RD_GET, under its own name or as an opcode row, is no other command. -/
theorem readerGet_ne {c : Instr} (hget : isReaderGet i) (hc : c.opcode? = none) (hne : c ≠ .rdGet) : i ≠ c := by
  rintro rfl
  obtain rfl | hop := hget
  · exact hne rfl
  · simp [hc] at hop

/-- IN_APPEND's `narrow` keeps the byte it stores. -/
theorem ofNat_narrow (v : Nat) : BitVec.ofNat 8 (narrow v 8) = BitVec.ofNat 8 v :=
  BitVec.eq_of_toNat_eq (by simp [narrow])

theorem memoryFrame_ok (h : bodyOf i s = .ok u) : MemoryFrame i s { u with status := .ok } := by
  revert i u
  apply ok_cases (s := s) (P := fun i u => MemoryFrame i s { u with status := .ok })
  case venc32 => exact memoryFrame_of_append (.inl rfl) rfl rfl rfl rfl rfl
  case venc64 => exact fun _ => memoryFrame_of_append (.inr (.inl rfl)) rfl rfl rfl rfl rfl
  case wrOutput => exact fun _ _ _ _ _ _ => memoryFrame_of_append (.inr (.inr (.inl rfl))) rfl rfl rfl rfl rfl
  case fhWrite => exact fun _ _ _ _ => memoryFrame_of_append (.inr (.inr (.inr rfl))) rfl rfl rfl rfl rfl
  case inAppend =>
    intro _
    refine ⟨.inr (.inl ⟨rfl, rfl, ?_⟩), fun _ => ⟨[], by simp, nofun⟩, nofun⟩
    simp only [setRes0_inp, inAppend_inp, ofNat_narrow]
  case ctWrite =>
    intro _ _ _ _ _
    refine ⟨.inr (.inr ⟨nofun, rfl⟩), fun _ => ⟨[], by simp, nofun⟩, fun _ a ha => ?_⟩
    simp only [State.readByte, ctSet, read_write, if_neg ha]
  case ctLoadDefault => exact fun _ _ => ⟨.inr (.inr ⟨nofun, rfl⟩), fun _ => ⟨[], by simp, nofun⟩, nofun⟩
  case reset => exact ⟨.inl ⟨rfl, rfl⟩, fun h => absurd rfl h, nofun⟩
  case getPushback => exact fun i r hget _ _ _ _ => memoryFrame_of_eq (readerGet_ne hget rfl nofun) rfl rfl rfl
  case getHalf => exact fun i _ _ _ _ _ _ hget _ _ _ _ _ _ _ => memoryFrame_of_eq (readerGet_ne hget rfl nofun) rfl rfl rfl
  case wrAdd | wrRun | wrCopy =>
    intros
    rename_i hadd
    rw [addInstruction_frame hadd]
    exact memoryFrame_of_eq nofun rfl rfl rfl
  all_goals
    intros
    exact memoryFrame_of_eq nofun rfl rfl rfl

/-- A failure touches no memory, and RESET cannot fail. -/
theorem memoryFrame_exec (h : exec i s = .next t) : MemoryFrame i s t := by
  obtain ⟨u, hu, rfl⟩ | ⟨f, hf, rfl⟩ := exec_cases h
  · exact memoryFrame_ok hu
  · refine memoryFrame_of_eq ?_ (fail_inp s f) (fail_out s f) (fail_ct s f)
    rintro rfl
    cases hf

/-- IN and OUT only grow, but in RESET. -/
theorem exec_appendOnly (h : exec i s = .next t) (hi : i ≠ .reset) : s.inp <+: t.inp ∧ s.out <+: t.out := by
  have f := memoryFrame_exec h
  obtain ⟨bytes, hout, _⟩ := f.out hi
  refine ⟨?_, hout ▸ List.prefix_append _ _⟩
  obtain ⟨hr, _⟩ | ⟨_, _, hinp⟩ | ⟨_, hinp⟩ := f.inp
  · exact absurd hr hi
  · exact hinp ▸ List.prefix_append _ _
  · exact hinp ▸ List.prefix_rfl

theorem decodeCommand_eq_reset {code : Byte} (h : decodeCommand code = some .reset) : code = 0x7F := by
  revert code
  decide

/-- Over a step, IN and OUT only grow unless the host issues RESET. -/
theorem step_appendOnly (h : step s = .next t) :
    (∃ rest, s.host = .writeCmd 0x7F :: rest) ∨ (s.inp <+: t.inp ∧ s.out <+: t.out) := by
  obtain ⟨code, rest, i, hhost, hdec, hexec⟩ | ⟨code, rest, _, _, rfl⟩ | ⟨rest, arg, data, reads, rfl⟩ := step_cases h
  · by_cases hi : i = .reset
    · subst hi
      exact .inl ⟨rest, decodeCommand_eq_reset hdec ▸ hhost⟩
    · have hgrow := exec_appendOnly hexec hi
      exact .inr hgrow
  all_goals exact .inr ⟨List.prefix_rfl, List.prefix_rfl⟩

/-- A memory that only grew reads as before where it had bytes. -/
theorem getElem?_of_prefix {l m : List Byte} (h : l <+: m) {p : Nat} (hp : p < l.length) : m[p]? = l[p]? :=
  (List.prefix_iff_getElem?.1 h p hp).trans (List.getElem?_eq_getElem hp).symm

theorem out_eq_of_not_append (h : exec i s = .next t) (hi : i ∉ [Instr.venc32, .venc64, .wrOutput, .fhWrite, .reset]) :
    t.out = s.out := by
  simp only [List.mem_cons, List.not_mem_nil, or_false, not_or] at hi
  obtain ⟨h1, h2, h3, h4, hreset⟩ := hi
  obtain ⟨bytes, hout, hnew⟩ := (memoryFrame_exec h).out hreset
  have hnone : bytes = [] := by
    by_contra hne
    obtain ⟨_, _, hop⟩ := hnew hne
    simp [h1, h2, h3, h4] at hop
  rw [hout, hnone, List.append_nil]

theorem inp_eq_of_not_append (h : exec i s = .next t) (hi : i ∉ [Instr.inAppend, .reset]) : t.inp = s.inp := by
  simp only [List.mem_cons, List.not_mem_nil, or_false, not_or] at hi
  obtain ⟨hr, _⟩ | ⟨ha, _⟩ | ⟨_, hinp⟩ := (memoryFrame_exec h).inp
  · exact absurd hr hi.2
  · exact absurd ha hi.1
  · exact hinp

theorem ct_eq_of_not_write (h : exec i s = .next t) (hi : i ∉ [Instr.ctWrite, .ctLoadDefault, .reset]) : t.ct = s.ct := by
  by_contra hne
  exact hi (by simpa using (registerFrame_exec h).table hne)

/-- IN_APPEND changes no byte but the one at IN_LEN. -/
theorem readByte_inp_of_inAppend (h : exec .inAppend s = .next t) {a : Nat} (ha : a ≠ s.inLen) :
    t.readByte .inp a = s.readByte .inp a := by
  obtain ⟨hr, _⟩ | ⟨_, _, hinp⟩ | ⟨_, hinp⟩ := (memoryFrame_exec h).inp
  · cases hr
  · simp only [State.readByte, hinp, List.getElem?_append, List.getElem?_singleton]
    simp only [State.inLen] at ha
    split
    · rfl
    · rw [if_neg (by omega), List.getElem?_eq_none (by omega)]
  · exact readByte_inp_of_eq hinp a

end memories

/-- Settles O53: the frame of IN over an instruction, and that a step only extends it. -/
theorem inAppendOnly : Obligations.InAppendOnly := by
  refine ⟨fun i s t h => (memoryFrame_exec h).inp, fun s t h => ?_⟩
  obtain hreset | ⟨hinp, _⟩ := step_appendOnly h
  · exact .inl hreset
  · exact .inr ⟨hinp.length_le, fun p hp => getElem?_of_prefix hinp hp⟩

/-- Settles O54: the frame of OUT over an instruction, and that a step only extends it. -/
theorem outAppendOnly : Obligations.OutAppendOnly := by
  refine ⟨fun i s t h hi => (memoryFrame_exec h).out hi, fun s t h => ?_⟩
  obtain hreset | ⟨_, hout⟩ := step_appendOnly h
  · exact .inl hreset
  · exact .inr ⟨hout.length_le, fun p hp => getElem?_of_prefix hout hp⟩

/-- Settles O57: per class of instructions, the memories it leaves equal and, in the one it writes, the bytes it leaves. -/
theorem memoryFrames : Obligations.MemoryFrames := by
  intro i s t h
  refine ⟨fun hi m a => ?_, fun hi => ?_, ?_, ?_, ?_, ?_⟩
  · simp only [List.mem_cons, List.not_mem_nil, or_false, not_or] at hi
    cases m with
    | inp => exact readByte_inp_of_eq (inp_eq_of_not_append h (by simp [hi])) a
    | out => exact readByte_out_of_eq (out_eq_of_not_append h (by simp [hi])) a
    | ct => exact readByte_ct_of_eq (ct_eq_of_not_write h (by simp [hi])) a
  · obtain ⟨hin, hwrite, hload, hreset⟩ : i ≠ .inAppend ∧ i ≠ .ctWrite ∧ i ≠ .ctLoadDefault ∧ i ≠ .reset := by
      simp only [List.mem_cons, List.not_mem_nil, or_false] at hi
      obtain rfl | rfl | rfl | rfl := hi <;> decide
    obtain ⟨_, hout⟩ := exec_appendOnly h hreset
    exact ⟨readByte_inp_of_eq (inp_eq_of_not_append h (by simp [hin, hreset])),
      readByte_ct_of_eq (ct_eq_of_not_write h (by simp [hwrite, hload, hreset])), fun a ha => getElem?_of_prefix hout ha⟩
  · rintro rfl
    exact ⟨readByte_out_of_eq (out_eq_of_not_append h (by decide)), readByte_ct_of_eq (ct_eq_of_not_write h (by decide)),
      fun a ha => readByte_inp_of_inAppend h ha⟩
  · rintro rfl
    exact ⟨readByte_inp_of_eq (inp_eq_of_not_append h (by decide)), readByte_out_of_eq (out_eq_of_not_append h (by decide)),
      (memoryFrame_exec h).ctWrite rfl⟩
  · rintro rfl
    exact ⟨readByte_inp_of_eq (inp_eq_of_not_append h (by decide)), readByte_out_of_eq (out_eq_of_not_append h (by decide))⟩
  · rintro rfl
    cases h
    exact ⟨fun _ => rfl, fun _ => rfl⟩

end Sys2Proof.Machine

/-! The statements of the family `30_encoding.md`: the words (O1), the decoder against the encoder (O2), and the opcode rows (O35). -/

namespace Sys2Proof.Machine

/-! The decoder and the encoder, each the other's inverse (`30_encoding.md` R300, R301, R320, R321). -/

/-- One evaluation per row of the opcode table. -/
theorem decode_encode (i : Instr) (rest : List Byte) : decode (encode i).1 ((encode i).2 :: rest) = .ok (i, rest) := by
  cases i <;> rfl

/-- R300's table and the encoder give each command the same code. -/
theorem encode_of_mem_commandTable : ∀ e ∈ commandTable, encode e.2 = (.command, e.1) := by decide

theorem encode_of_decodeCommand {b : Byte} {i : Instr} (h : decodeCommand b = some i) : encode i = (.command, b) := by
  obtain ⟨e, he, rfl⟩ := Option.map_eq_some_iff.1 h
  have hb : e.1 = b := by simpa using List.find?_some he
  exact hb ▸ encode_of_mem_commandTable e (List.mem_of_find?_eq_some he)

/-- Every byte selects a row, and the encoder numbers that row with the byte (R320, R321). -/
theorem decodeOpcode_map_encode : ∀ op : Byte, (decodeOpcode op).map encode = some (.stream, op) := by decide +kernel

theorem exists_decodeOpcode (op : Byte) : ∃ i, decodeOpcode op = some i ∧ encode i = (.stream, op) :=
  Option.map_eq_some_iff.1 (decodeOpcode_map_encode op)

theorem encode_of_decode {space : Space} {bytes rest : List Byte} {i : Instr} (h : decode space bytes = .ok (i, rest)) :
    (encode i).1 = space ∧ bytes = (encode i).2 :: rest := by
  cases bytes with
  | nil => cases h
  | cons b bs =>
    cases space with
    | command =>
      cases hd : decodeCommand b with
      | none => simp [decode, hd] at h
      | some j =>
        obtain ⟨rfl, rfl⟩ : j = i ∧ bs = rest := by simpa [decode, hd] using h
        simp [encode_of_decodeCommand hd]
    | stream =>
      obtain ⟨j, hd, he⟩ := exists_decodeOpcode b
      obtain ⟨rfl, rfl⟩ : j = i ∧ bs = rest := by simpa [decode, hd] using h
      simp [he]

theorem decode_stream_total (op : Byte) (rest : List Byte) : ∃ i, decode .stream (op :: rest) = .ok (i, rest) := by
  obtain ⟨i, hd, _⟩ := exists_decodeOpcode op
  exact ⟨i, by simp [decode, hd]⟩

theorem decode_command_eq_illegal {code : Byte} {rest : List Byte} :
    decode .command (code :: rest) = .error (.illegalCommand code) ↔ decodeCommand code = none := by
  cases h : decodeCommand code <;> simp [decode, h]

/-- The codes that R300's table leaves out are R301's ranges, over all 256 codes. -/
theorem decodeCommand_eq_none : ∀ code : Byte, decodeCommand code = none ↔
    0x05 ≤ code ∧ code ≤ 0x0F ∨ 0x15 ≤ code ∧ code ≤ 0x17 ∨ 0x1A ≤ code ∧ code ≤ 0x1F ∨ 0x25 ≤ code ∧ code ≤ 0x2F ∨
      0x36 ≤ code ∧ code ≤ 0x3F ∨ 0x43 ≤ code ∧ code ≤ 0x6F ∨ 0x73 ≤ code ∧ code ≤ 0x7E ∨ 0x80 ≤ code := by
  decide +kernel

/-- Settles O2: the round trip row by row, its converse from the two tables, and the codes without a row. -/
theorem decodeEncodeAgree : Obligations.DecodeEncodeAgree :=
  ⟨decode_encode, fun _ _ _ _ => encode_of_decode, decode_stream_total,
    fun code _ => decode_command_eq_illegal.trans (decodeCommand_eq_none code)⟩

/-- Settles O1: each accepted word is the encoding of its instruction (`decode_encode`); the last three are rejected by evaluation. -/
theorem wordsDecode : Obligations.WordsDecode :=
  ⟨decode_encode .nop [0x55], decode_encode .venc32 [], decode_encode .vdec64 [], decode_encode .ctWrite [],
    decode_encode .mapSecond [], decode_encode .rdGet [], decode_encode .wrCopy [], decode_encode .fhWrite [],
    decode_encode .whParse [], decode_encode .inAppend [], decode_encode .reset [],
    decode_command_eq_illegal.2 (by decide), decode_command_eq_illegal.2 (by decide), rfl,
    decode_encode .opRun [], decode_encode .opAdd [0x05], decode_encode .opAdd17 [], decode_encode .opCopy5M6 [],
    decode_encode .opAdd2Copy4M0 [], decode_encode .opAdd4Copy4M6 [], decode_encode .opCopy4M0Add1 [],
    decode_encode .opCopy4M8Add1 []⟩

/-! The default table's rows (`30_encoding.md` R320), through the table's bytes. -/

section defaultTable

variable {a op : Nat}

theorem ctByte_default (h : op < 256) : ctByte defaultCt a op = (defaultRow op).byte a := by
  have hrow : ctAddr a op % 256 = op := by simp only [ctAddr]; omega
  have harray : ctAddr a op / 256 = a := by simp only [ctAddr]; omega
  simp [ctByte, Memory.read, Memory.lookup, defaultCt, defaultByte, hrow, harray]

theorem firstHalf_default (h : op < 256) : firstHalf defaultCt op = (defaultRow op).first := by
  simp only [firstHalf, ctByte_default h, Row.byte]

theorem secondHalf_default (h : op < 256) : secondHalf defaultCt op = (defaultRow op).second := by
  simp only [secondHalf, ctByte_default h, Row.byte]

theorem defaultRow_first_typ (op : Nat) : (defaultRow op).first.typ ≠ typNoop := by
  unfold defaultRow
  split_ifs <;> simp [mkHalf, typRun, typAdd, typCopy, typNoop]

/-- The dual opcodes of the default table are those above 162. -/
theorem defaultRow_second_typ (op : Nat) : (defaultRow op).second.typ = typNoop ↔ op ≤ 162 := by
  unfold defaultRow
  split_ifs <;> simp [mkHalf, noopHalf, typAdd, typCopy, typNoop] <;> omega

theorem returnedHalf_default (op : Byte) : returnedHalf defaultCt op = (defaultRow op.toNat).first := by
  rw [returnedHalf, firstHalf_default op.isLt, if_neg (defaultRow_first_typ _)]

theorem pendingAfter_default (op : Byte) : pendingAfter defaultCt op = if op.toNat ≤ 162 then none else some op := by
  simp only [pendingAfter, firstHalf_default op.isLt, secondHalf_default op.isLt, ne_eq, defaultRow_first_typ,
    defaultRow_second_typ, not_false_eq_true, true_and, ite_not]

end defaultTable

/-! RD_GET over given unread bytes, with the reader ready and nothing pushed back or pending (`42_reader.md` R603, R604). -/

section scan

variable {s : State} {bytes skipped rest : List Byte} {op : Byte} {h : Half} {pend : Option Byte} {p : Nat}

theorem sizedReturn_of_size_ne_zero (hsize : h.size ≠ 0) : sizedReturn s h pend p = returned s h pend h.size.toNat p := if_pos hsize

theorem sizedReturn_of_varint {v q : Nat} (hsize : h.size = 0) (hv : vdec32 s.inp p s.rdEnd.toNat = .ok v q) (hle : v ≤ maxField) :
    sizedReturn s h pend p = returned s h pend v q := by
  simp only [sizedReturn, hsize, hv, ne_eq, not_true_eq_false, if_false, if_neg (Nat.not_lt.2 hle)]

variable (hsession : s.sessionFailed = false) (hactive : s.readerActive = true) (hvalid : s.tableValid = true)
  (hpushback : s.pushbackInst = none) (hpending : s.pendingOp = none)
include hsession hactive hvalid hpushback hpending

/-- Bare NOOPs are skipped up to the first opcode that returns a half. -/
theorem finish_rdGetOn_skip (hskip : ∀ b ∈ skipped, bareNoop s.ct b) (hop : ¬bareNoop s.ct op) :
    finish s (rdGetOn (skipped ++ op :: rest) s) =
      sizedReturn s (returnedHalf s.ct op) (pendingAfter s.ct op) (s.rdPos.toNat + skipped.length + 1) := by
  refine rdGetOn_found hsession hactive hvalid hpushback ?_
  rw [hpending, nextHalf_skip hskip, nextHalf_op hop]

/-- A stream of bare NOOPs runs out behind its last byte. -/
theorem finish_rdGetOn_bare (hbare : ∀ b ∈ bytes, bareNoop s.ct b) :
    finish s (rdGetOn bytes s) = { s with status := .truncated, rdPos := w64 (s.rdPos.toNat + bytes.length) } := by
  refine rdGetOn_exhausted hsession hactive hvalid hpushback ?_
  rw [hpending]
  exact (nextHalf_eq_exhausted _ _ _ _).2 ⟨hbare, rfl⟩

end scan

/-- An opcode row with a byte unread is RD_GET with that byte taken to be the row's (log 2). -/
theorem exec_opcode_cons {i : Instr} {op b : Byte} {s : State} {rest : List Byte} (hi : i.opcode? = some op) (hu : s.unread = b :: rest) :
    exec i s = .next (finish s (rdGetOn (op :: rest) s)) := by
  rw [exec_eq, bodyOf_opcode hi, unreadFrom_cons s op hu]

/-- Settles O35: a row that is no bare NOOP returns its half at once, a bare NOOP goes on with the scan; the default table by its rows. -/
theorem opcodeRows : Obligations.OpcodeRows := by
  intro i op hi s hsession hactive hvalid hpushback hpending hunread
  have hreturn (hop : (returnedHalf s.ct op).typ ≠ typNoop) :
      exec i s = .next (sizedReturn s (returnedHalf s.ct op) (pendingAfter s.ct op) (s.rdPos.toNat + 1)) := by
    obtain ⟨b, rest, hu⟩ := List.exists_cons_of_ne_nil hunread
    rw [exec_opcode_cons hi hu, ← List.nil_append (op :: rest),
      finish_rdGetOn_skip hsession hactive hvalid hpushback hpending (by simp) (returnedHalf_typ.1 hop), List.length_nil, Nat.add_zero]
  refine ⟨fun hop hsize => ?_, fun v q hop hsize hv hle => ?_, hreturn, fun b skipped next rest hbare hu hskip hnext => ?_,
    fun b rest hbare hu hrest => ?_, fun hct => ?_⟩
  · rw [hreturn hop, sizedReturn_of_size_ne_zero hsize]
  · rw [hreturn hop, sizedReturn_of_varint hsize hv hle]
  · rw [exec_opcode_cons hi hu, ← List.cons_append, finish_rdGetOn_skip hsession hactive hvalid hpushback hpending
      (List.forall_mem_cons.2 ⟨hbare, hskip⟩) hnext, List.length_cons, Nat.add_comm skipped.length 1,
      ← Nat.add_assoc]
  · rw [exec_opcode_cons hi hu, finish_rdGetOn_bare hsession hactive hvalid hpushback hpending
      (List.forall_mem_cons.2 ⟨hbare, hrest⟩), hu]
    rfl
  · rw [hct]
    exact ⟨returnedHalf_default op, pendingAfter_default op⟩

end Sys2Proof.Machine

/-! The statements of the family `40_varint.md`: the encoder (O17, O13, O14), the decoders on any bytes (O18, O15, O16), and the two
together (O19). -/

namespace Sys2Proof.Machine

/-! The encoder's length and digits (`30_encoding.md` R310, R311; `40_varint.md` R401, R402, R405). -/

section encoder

variable {v n : Nat}

theorem groupsValue_zero_lt (bytes : List Byte) : groupsValue 0 bytes < 128 ^ bytes.length := by
  simpa using groupsValue_lt bytes 0

/-- A varint of `n` bytes holds exactly the values of `n` base-128 digits (R311). -/
theorem vlen_le_iff (hv : v < 128 ^ 10) (hn : 0 < n) : vlen v ≤ n ↔ v < 128 ^ n := by
  obtain ⟨cs, last, henc, -, -, hval, hshort, -⟩ := venc_shape v hv
  have hlen : vlen v = (cs ++ [last]).length := congrArg List.length henc
  obtain ⟨k, rfl⟩ := Nat.exists_eq_add_one.2 hn
  constructor
  · intro hle
    calc v = groupsValue 0 (cs ++ [last]) := hval.symm
      _ < 128 ^ (cs ++ [last]).length := groupsValue_zero_lt _
      _ ≤ 128 ^ (k + 1) := Nat.pow_le_pow_right (by decide) (hlen ▸ hle)
  · intro hlt
    rw [hlen, List.length_append]
    exact Nat.succ_le_succ (hshort k hlt)

theorem vlen_pos (v : Nat) : 0 < vlen v := venc_length_pos v

theorem lt_pow_vlen (hv : v < 128 ^ 10) : v < 128 ^ vlen v := (vlen_le_iff hv (vlen_pos v)).1 le_rfl

theorem vlen_of_lt (h : v < 128) : vlen v = 1 :=
  le_antisymm ((vlen_le_iff (by omega) Nat.one_pos).2 h) (vlen_pos v)

theorem vlen_le_five (h : v < 2 ^ 32) : vlen v ≤ 5 := (vlen_le_iff (by omega) (by decide)).2 (by omega)

theorem vlen_le_nine (h : v < 2 ^ 63) : vlen v ≤ 9 := (vlen_le_iff (by omega) (by decide)).2 (by omega)

/-- R405's recursion: one digit fewer, one byte fewer. -/
theorem vlen_of_ge (hv : v < 128 ^ 10) (h : 128 ≤ v) : vlen v = 1 + vlen (v / 128) := by
  have hdiv (k : Nat) : v / 128 < 128 ^ k ↔ v < 128 ^ (k + 1) := by
    rw [Nat.div_lt_iff_lt_mul (by decide), ← Nat.pow_succ]
  have hv' : v / 128 < 128 ^ 10 := (Nat.div_le_self v 128).trans_lt hv
  have htwo : 1 < vlen v := by
    rw [← not_le, vlen_le_iff hv Nat.one_pos]
    omega
  obtain ⟨k, hk⟩ : ∃ k, vlen v = k + 1 := ⟨vlen v - 1, by omega⟩
  apply le_antisymm
  · rw [vlen_le_iff hv (by omega), Nat.add_comm, ← hdiv]
    exact lt_pow_vlen hv'
  · have hle : vlen (v / 128) ≤ k := by
      rw [vlen_le_iff hv' (by omega), hdiv, ← hk]
      exact lt_pow_vlen hv
    omega

/-- No leading 0x80 (R402): a head with the continuation bit has a digit above 0, and a single byte has no continuation bit. -/
theorem head?_venc_ne (hv : v < 128 ^ 10) : (venc v).head? ≠ some 0x80 := by
  obtain ⟨cs, last, henc, -, hlast, -, -, hhead⟩ := venc_shape v hv
  rw [henc]
  cases cs with
  | nil =>
    rintro ⟨⟩
    exact absurd hlast (by decide)
  | cons c rest => exact hhead

end encoder

/-- Settles O17: the digits by `venc_shape`; the lengths and that no varint is shorter by `vlen_le_iff`. -/
theorem varintCanonical : Obligations.VarintCanonical := by
  intro v hv64
  have hv : v < 128 ^ 10 := by omega
  refine ⟨?_, vlen_of_lt, vlen_of_ge hv, vlen_le_five, vlen_le_nine, ?_⟩
  · obtain ⟨cs, last, henc, hcont, hlast, hval, -, -⟩ := venc_shape v hv
    exact ⟨cs, last, henc, hcont, hlast, hval, head?_venc_ne hv⟩
  · rintro cs last - - hval
    rw [vlen_le_iff hv (Nat.succ_pos _), ← hval]
    exact (groupsValue_zero_lt (cs ++ [last])).trans_eq (by rw [List.length_append, List.length_singleton])

/-! The decoders: one loop for both widths (R403, R404). -/

/-- The decoder of varints of at most `maxBytes` bytes with values up to `vmax`. -/
def vdecOf (maxBytes vmax : Nat) (inp : List Byte) (p lim : Nat) : VarintOutcome := vdecLoop inp vmax lim maxBytes 0 p

theorem vdec32_eq_vdecOf : vdec32 = vdecOf 5 (2 ^ 32 - 1) := rfl

theorem vdec64_eq_vdecOf : vdec64 = vdecOf 9 (2 ^ 63 - 1) := rfl

section decoders

variable {inp : List Byte} {maxBytes vmax p lim n : Nat} {last : Byte}

/-- A run of `n` continuation bytes and the byte behind it, as the decoder meets them. -/
theorem drop_eq_run (hget : inp[p + n]? = some last) :
    inp.drop p = (inp.drop p).take n ++ last :: inp.drop (p + n + 1) := by
  obtain ⟨hlt, rfl⟩ := List.getElem?_eq_some_iff.1 hget
  rw [List.getElem_cons_drop, ← List.drop_drop, List.take_append_drop]

theorem vdecOf_run (hlim : p + n < lim) (hn : n < maxBytes) (hcont : ∀ b ∈ (inp.drop p).take n, 128 ≤ b.toNat)
    (hget : inp[p + n]? = some last) (hlast : last.toNat < 128) :
    vdecOf maxBytes vmax inp p lim =
      if groupsValue 0 ((inp.drop p).take (n + 1)) > vmax then .malformed
      else .ok (groupsValue 0 ((inp.drop p).take (n + 1))) (p + n + 1) := by
  have hlen : ((inp.drop p).take n).length = n := by
    have := (List.getElem?_eq_some_iff.1 hget).1
    rw [List.length_take, List.length_drop]
    omega
  have htake : (inp.drop p).take (n + 1) = (inp.drop p).take n ++ [last] := by
    rw [List.take_add_one, List.getElem?_drop, hget, Option.toList_some]
  have hrun := vdecLoop_run (vmax := vmax) (lim := lim) last hlast _ _ maxBytes 0 p hcont (by omega) (drop_eq_run hget) (by omega)
  rw [hlen, ← htake] at hrun
  exact hrun

end decoders

/-- Settles O18: `vdecOf_run` where a last byte comes in time, `vdecLoop_truncated` and `vdecLoop_malformed` where none does. -/
theorem varintDecode : Obligations.VarintDecode := by
  intro dec maxBytes vmax hdec inp p lim _ hlim
  obtain rfl : dec = vdecOf maxBytes vmax := by
    obtain ⟨rfl, rfl, rfl⟩ | ⟨rfl, rfl, rfl⟩ := hdec
    · exact vdec32_eq_vdecOf
    · exact vdec64_eq_vdecOf
  refine ⟨?_, vdecLoop_truncated maxBytes 0 p hlim, vdecLoop_malformed maxBytes 0 p hlim⟩
  rintro n hp hn hcont ⟨last, hget, hlast⟩
  exact vdecOf_run hp hn hcont hget hlast

/-! The commands (R410 to R413). -/

/-- How VDEC32 and VDEC64 end on a decode's outcome (R412). -/
def State.afterDecode (s : State) : VarintOutcome → State
  | .truncated => { s with status := .truncated }
  | .malformed => { s with status := .malformed }
  | .ok v q => { s with res := { s.res with r0 := w64 v, r1 := w64 q }, status := .ok }

theorem finish_vdecBody (dec : List Byte → Nat → Nat → VarintOutcome) (s : State) :
    finish s (vdecBody dec s) =
      if s.a0 ≤ s.a1 ∧ s.a1 ≤ s.inLen then s.afterDecode (dec s.inp s.a0 s.a1) else { s with status := .outOfRange } := by
  rw [vdecBody, finish_check]
  congr 1
  cases dec s.inp s.a0 s.a1 <;> rfl

/-- A decode command in its range ends as its decoder says. -/
theorem finish_vdecBody_inRange (dec : List Byte → Nat → Nat → VarintOutcome) {s : State} (h : s.a0 ≤ s.a1)
    (hlim : s.a1 ≤ s.inLen) :
    finish s (vdecBody dec s) = s.afterDecode (dec s.inp s.a0 s.a1) := by
  rw [finish_vdecBody, if_pos ⟨h, hlim⟩]

/-- Settles O13: the body appends and sets RES0. -/
theorem venc32Effect : Obligations.Venc32Effect := fun s => exec_eq .venc32 s

/-- Settles O14: the body's check is the complement of the statement's refusal. -/
theorem venc64Effect : Obligations.Venc64Effect := by
  intro s
  have hfit : s.a0 ≤ varint64Max ↔ ¬s.a0 ≥ 2 ^ 63 := by
    rw [varint64Max_eq]
    omega
  rw [exec_eq, bodyOf, venc64Body, finish_check]
  simp only [hfit, ite_not]
  rfl

/-- Settles O15 by `finish_vdecBody`. -/
theorem vdec32Effect : Obligations.Vdec32Effect := by
  intro s
  rw [exec_eq, bodyOf, finish_vdecBody, ite_not]
  rfl

/-- Settles O16 by `finish_vdecBody`. -/
theorem vdec64Effect : Obligations.Vdec64Effect := by
  intro s
  rw [exec_eq, bodyOf, finish_vdecBody, ite_not]
  rfl

/-! A decode command over an encoder's bytes (R420, R421). -/

section roundTrip

variable {d : State} {maxBytes vmax v : Nat} (hmax : v ≤ vmax) (hv : v < 128 ^ 10) (hbytes : vlen v ≤ maxBytes)
  (hin : (d.inp.drop d.a0).take (vlen v) = venc v) (hlim : d.a1 ≤ d.inLen)
include hv hbytes hin hlim

theorem finish_vdecBody_short (hlen : d.a0 + vlen v ≤ d.inLen) (hle : d.a0 ≤ d.a1) (hlt : d.a1 < d.a0 + vlen v) :
    finish d (vdecBody (vdecOf maxBytes vmax) d) = { d with status := .truncated } := by
  rw [finish_vdecBody_inRange _ hle hlim, vdecOf, vdecLoop_venc_short hv hbytes hin hlen hle hlt]
  rfl

include hmax

theorem finish_vdecBody_venc (hle : d.a0 + vlen v ≤ d.a1) :
    finish d (vdecBody (vdecOf maxBytes vmax) d) =
      { d with res := { d.res with r0 := w64 v, r1 := w64 (d.a0 + vlen v) }, status := .ok } := by
  rw [finish_vdecBody_inRange _ (Nat.le_of_add_right_le hle) hlim, vdecOf, vdecLoop_venc hv hmax hbytes hin hle]
  rfl

end roundTrip

/-- Settles O19: the round trip at each width by `finish_vdecBody_venc` and `finish_vdecBody_short`, the other limits by
`vdecLoop_ok_extend` and `vdecLoop_truncated_of_ok`. -/
theorem varintRoundTrip : Obligations.VarintRoundTrip := by
  refine ⟨fun s d hin hlen hlim => ?_, fun s d hfit hin hlen hlim => ?_, fun dec inp more p lim lim' v q hdec h => ?_⟩
  · have hfit : s.a0 % 2 ^ 32 < 2 ^ 32 := Nat.mod_lt _ (by decide)
    rw [exec_eq, bodyOf, vdec32_eq_vdecOf]
    exact ⟨fun hle => congrArg _ (finish_vdecBody_venc (by omega) (by omega) (vlen_le_five hfit) hin hlim hle),
      fun hle hlt => congrArg _ (finish_vdecBody_short (by omega) (vlen_le_five hfit) hin hlim hlen hle hlt)⟩
  · have hr0 : s.arg.r0 = w64 s.a0 := (w64_of_toNat _).symm
    rw [exec_eq, bodyOf, vdec64_eq_vdecOf, hr0]
    exact ⟨fun hle => congrArg _ (finish_vdecBody_venc (by omega) (by omega) (vlen_le_nine hfit) hin hlim hle),
      fun hle hlt => congrArg _ (finish_vdecBody_short (by omega) (vlen_le_nine hfit) hin hlim hlen hle hlt)⟩
  · obtain rfl | rfl := hdec <;> exact ⟨vdecLoop_ok_extend more h, vdecLoop_truncated_of_ok more h⟩

end Sys2Proof.Machine

/-! The statements of the family `41_codetable.md`: the table commands (O20 to O24), the maps (O25, O28) with the two lookup commands
(O26, O27), and the default table (O29). -/

namespace Sys2Proof.Machine

/-! How the table commands begin: the refusal of R515 and the operand checks. -/

/-- A body that begins with R515's refusal ends the command STATE_ERROR while the reader or the writer uses the table. -/
theorem finish_ctMutable (s : State) (g : Unit → Except Failure State) :
    finish s (ctMutable s >>= g) =
      if s.readerActive = true ∨ s.wrInstCount ≠ 0 then { s with status := .stateError } else finish s (g ()) := by
  by_cases h : s.readerActive = true ∨ s.wrInstCount ≠ 0
  · rw [ctMutable_busy h, if_pos h]
    rfl
  · rw [(ctMutable_eq_ok ()).2 (by simpa using h), if_neg h]
    rfl

/-- A body that begins with a check, with the check told by what it refuses. -/
theorem finish_check_refuse {p q : Prop} [Decidable p] [Decidable q] (h : p ↔ ¬q) (s : State) (st : Status)
    (g : Unit → Except Failure State) :
    finish s (check p (.plain st) >>= g) = if q then { s with status := st } else finish s (g ()) := by
  simp only [finish_check, h, ite_not, fail]

/-- R502's checks, with the rest of the body told only for the types and modes that pass them. -/
theorem finish_checkInstruction_of_valid {s u : State} {maxMode t m sz : Nat} {g : Unit → Except Failure State}
    (h : t = 1 ∨ t = 2 ∨ t = 3 → ¬((t ≠ 3 ∧ m ≠ 0) ∨ (t = 3 ∧ m > maxMode)) → finish s (g ()) = u) :
    finish s (checkInstruction maxMode t m sz >>= g) =
      if ¬(t = 1 ∨ t = 2 ∨ t = 3) then { s with status := .malformed }
      else if (t ≠ 3 ∧ m ≠ 0) ∨ (t = 3 ∧ m > maxMode) then { s with status := .malformed }
      else if sz > maxField then { s with status := .outOfRange }
      else u := by
  rw [finish_checkInstruction]
  exact ite_congr rfl (fun _ => rfl) fun htyp => ite_congr rfl (fun _ => rfl) fun hmode => by rw [h (not_not.1 htyp) hmode]

/-- Settles O20: the body after R515's refusal, and `ctByte_default` for the rows. -/
theorem ctLoadDefaultEffect : Obligations.CtLoadDefaultEffect := by
  refine ⟨fun s => ?_, fun a _ r hr => ctByte_default (Nat.lt_succ_of_le hr)⟩
  rw [exec_eq, bodyOf, ctLoadDefaultBody, finish_ctMutable, finish_pure, show w64 defaultNear = 4 from rfl,
    show w64 defaultSame = 3 from rfl]

/-- Settles O21: R515's refusal, then the range check. -/
theorem ctSetCacheEffect : Obligations.CtSetCacheEffect := by
  intro s
  rw [exec_eq, bodyOf, ctSetCacheBody, finish_ctMutable,
    finish_check_refuse (q := s.a0 > 254 ∨ s.a1 > 254 ∨ s.a0 + s.a1 > 254) (by rw [cacheLimit_eq]; omega)]
  rfl

/-- Settles O22: the checks in order; the byte reads back by `ctByte_ctSet`. -/
theorem ctWriteEffect : Obligations.CtWriteEffect := by
  refine fun s => ⟨?_, fun _ hrow hbyte a _ r hr => ?_⟩
  · rw [exec_eq, bodyOf, ctWriteBody, finish_ctMutable, finish_check_refuse (q := s.a0 > 5) (by omega),
      finish_check_refuse (q := s.a1 > 255 ∨ s.a2 > 255) (by omega)]
    rfl
  · rw [ctByte_ctSet _ _ _ _ _ _ hrow hr, apply_ite BitVec.toNat, BitVec.toNat_ofNat, Nat.mod_eq_of_lt (Nat.lt_succ_of_le hbyte)]

/-- Settles O23: the two checks in order. -/
theorem ctReadEffect : Obligations.CtReadEffect := by
  intro s
  rw [exec_eq, bodyOf, ctReadBody, finish_check_refuse (q := s.a0 > 5) (by omega),
    finish_check_refuse (q := s.a1 > 255) (by omega)]
  rfl

/-! What validation accepts (`41_codetable.md` R503), on the numbers of the table. -/

section validation

variable {ct : List Host.Cell} {maxMode : Nat}

/-- R503 (1). -/
theorem halfOk_iff {h : Half} : halfOk maxMode h = true ↔
    h.typ.toNat ≤ 3 ∧ (h.typ.toNat = 0 → h.size = 0) ∧ (h.typ.toNat ≠ 3 → h.mode = 0) ∧ (h.typ.toNat = 3 → h.mode.toNat ≤ maxMode) := by
  have hnoop : h.typ = typNoop ↔ h.typ.toNat = 0 := BitVec.toNat_inj.symm
  have hcopy : h.typ = typCopy ↔ h.typ.toNat = 3 := BitVec.toNat_inj.symm
  simp only [halfOk, Bool.and_eq_true, Bool.or_eq_true, decide_eq_true_eq, bne_iff_ne, beq_iff_eq, ne_eq, hnoop, hcopy, and_assoc,
    imp_iff_not_or, not_not]

/-- The row R503 (2) asks for, on its bytes. -/
theorem isSizeZeroSingle_iff {typ : Byte} {m op : Nat} : isSizeZeroSingle typ m (ctRow ct op) = true ↔
    (ctByte ct 0 op).toNat = typ.toNat ∧ (ctByte ct 4 op).toNat = m ∧ ctByte ct 2 op = 0 ∧ (ctByte ct 1 op).toNat = 0 := by
  have hnoop : ctByte ct 1 op = typNoop ↔ (ctByte ct 1 op).toNat = 0 := BitVec.toNat_inj.symm
  simp only [isSizeZeroSingle, ctRow, firstHalf, secondHalf, Bool.and_eq_true, beq_iff_eq, hnoop, BitVec.toNat_inj, and_assoc]

theorem validate_iff (ct : List Host.Cell) (maxMode : Nat) : validate ct maxMode = true ↔
    (∀ op < 256, halfOk maxMode (firstHalf ct op) = true ∧ halfOk maxMode (secondHalf ct op) = true) ∧
      ∀ p ∈ reachablePairs maxMode, ∃ op < 256, isSizeZeroSingle p.1 p.2 (ctRow ct op) = true := by
  simp [validate, ctRow]

/-- The pairs R503 (2) ranges over, as numbers. -/
theorem forall_reachable_iff {P : Nat → Nat → Prop} :
    (∀ t m : Nat, (t = 1 ∧ m = 0 ∨ t = 2 ∧ m = 0 ∨ t = 3 ∧ m ≤ maxMode) → P t m) ↔
      ∀ p ∈ reachablePairs maxMode, P p.1.toNat p.2 := by
  simp only [mem_reachablePairs]
  constructor
  · rintro h ⟨typ, m⟩ (⟨⟨⟩⟩ | ⟨⟨⟩⟩ | ⟨rfl, hm⟩)
    · exact h 1 0 (.inl ⟨rfl, rfl⟩)
    · exact h 2 0 (.inr (.inl ⟨rfl, rfl⟩))
    · exact h 3 m (.inr (.inr ⟨rfl, hm⟩))
  · rintro h t m (⟨rfl, rfl⟩ | ⟨rfl, rfl⟩ | ⟨rfl, hm⟩)
    · exact h (typAdd, 0) (.inl rfl)
    · exact h (typRun, 0) (.inr (.inl rfl))
    · exact h (typCopy, m) (.inr (.inr ⟨rfl, hm⟩))

end validation

/-- Settles O24: the body's one check, and `validate_iff` with each of its two conditions written out. -/
theorem ctCommitEffect : Obligations.CtCommitEffect := by
  refine ⟨fun s => ?_, fun ct maxMode => ?_⟩
  · simp only [exec_eq, bodyOf, ctCommitBody, finish_check, finish_pure, fail]
  · rw [forall_reachable_iff, validate_iff]
    simp only [halfOk_iff, isSizeZeroSingle_iff, forall_eq_or_imp, forall_eq]

/-! What the maps hold (`41_codetable.md` R504 to R506). -/

section maps

variable {ct : List Host.Cell} {k size op : Nat}

theorem isFirstRow_iff : isFirstRow ct k size op = true ↔
    (firstHalf ct op).typ ≠ typNoop ∧ (secondHalf ct op).typ = typNoop ∧
      instIdx (firstHalf ct op).typ (firstHalf ct op).mode.toNat = k ∧ (firstHalf ct op).size.toNat = size := by
  simp only [isFirstRow, Bool.and_eq_true, bne_iff_ne, beq_iff_eq, and_assoc]

theorem isSecondRow_iff {fst : List FirstEntry} {f : Byte} : isSecondRow ct fst f k size op = true ↔
    (firstHalf ct op).typ ≠ typNoop ∧ (secondHalf ct op).typ ≠ typNoop ∧
      firstAt fst (instIdx (firstHalf ct op).typ (firstHalf ct op).mode.toNat) (firstHalf ct op).size.toNat = some f ∧
      instIdx (secondHalf ct op).typ (secondHalf ct op).mode.toNat = k ∧ (secondHalf ct op).size.toNat = size := by
  simp only [isSecondRow, Bool.and_eq_true, bne_iff_ne, beq_iff_eq, and_assoc]

/-- A search over the opcodes finds the lowest that matches. -/
theorem find_opcode_eq_some {p : Nat → Bool} {op : Byte} :
    ((List.range 256).find? p).map (BitVec.ofNat 8) = some op ↔ p op.toNat = true ∧ ∀ o < op.toNat, ¬p o = true := by
  have hop : (List.range 256).find? p = some op.toNat ↔ p op.toNat = true ∧ ∀ o < op.toNat, ¬p o = true := by
    simp [List.find?_range_eq_some, op.isLt]
  rw [← hop, Option.map_eq_some_iff]
  constructor
  · rintro ⟨n, hn, rfl⟩
    rwa [BitVec.toNat_ofNat, Nat.mod_eq_of_lt (List.mem_range.1 (List.mem_of_find?_eq_some hn))]
  · exact fun h => ⟨_, h, BitVec.ofNat_toNat _ _⟩

theorem find_opcode_eq_none {p : Nat → Bool} :
    ((List.range 256).find? p).map (BitVec.ofNat 8) = none ↔ ∀ o < 256, ¬p o = true := by
  simp

theorem firstLookup_eq_ite (fst : List FirstEntry) (k size : Nat) :
    firstLookup fst k size = if size ≤ 255 ∧ firstAt fst k size ≠ none then firstAt fst k size else firstAt fst k 0 := by
  unfold firstLookup
  by_cases hsize : size ≤ 255
  · cases firstAt fst k size <;> simp [hsize]
  · simp [hsize]

theorem secondLookup_eq_ite (snd : List SecondEntry) (f : Byte) (k size : Nat) :
    secondLookup snd f k size =
      if size ≤ 255 ∧ secondAt snd f k size ≠ none then secondAt snd f k size else secondAt snd f k 0 := by
  unfold secondLookup
  by_cases hsize : size ≤ 255
  · cases secondAt snd f k size <;> simp [hsize]
  · simp [hsize]

/-- A committed table has an opcode for every reachable type and mode, whatever the size (R506). -/
theorem firstLookup_committed {s : State} (h : InvTable s) (hvalid : s.tableValid = true) {typ : Byte} {m : Nat}
    (hpair : typ = typAdd ∧ m = 0 ∨ typ = typRun ∧ m = 0 ∨ typ = typCopy ∧ m ≤ s.maxMode) (size : Nat) :
    ∃ o, firstLookup s.first (instIdx typ m) size = some o := by
  rw [← Option.isSome_iff_exists, h.first hvalid]
  exact firstLookup_isSome (h.valid hvalid) ((mem_reachablePairs _ _).2 (by simpa using hpair)) size

end maps

/-- Settles O25: each map is a search over the opcodes by `firstAt_buildFirst` and `secondAt_buildSecond`; a committed table's first
lookup by `firstLookup_committed`. -/
theorem mapsHoldLowest : Obligations.MapsHoldLowest := by
  refine ⟨fun ct k size op => ?_, fun ct fst f k size op => ?_, firstLookup_eq_ite, secondLookup_eq_ite,
    fun s typ m size h hvalid hpair => Option.ne_none_iff_exists'.2 (firstLookup_committed h hvalid hpair size)⟩
  · simp only [firstAt_buildFirst, find_opcode_eq_some, find_opcode_eq_none, isFirstRow_iff, typNoop, and_self]
  · simp only [secondAt_buildSecond, find_opcode_eq_some, find_opcode_eq_none, isSecondRow_iff, typNoop, and_self]

/-! The lookup commands (`41_codetable.md` R520, R521). -/

theorem w64_sizeFollows (h : Half) : w64 (sizeFollows h) = if h.size = 0 then 1 else 0 := apply_ite w64 _ 1 0

/-- A type and mode that pass R502's checks are a reachable pair. -/
theorem pair_of_checked {t m maxMode : Nat} (htyp : t = 1 ∨ t = 2 ∨ t = 3) (hmode : ¬((t ≠ 3 ∧ m ≠ 0) ∨ (t = 3 ∧ m > maxMode))) :
    BitVec.ofNat 8 t = typAdd ∧ m = 0 ∨ BitVec.ofNat 8 t = typRun ∧ m = 0 ∨ BitVec.ofNat 8 t = typCopy ∧ m ≤ maxMode := by
  obtain rfl | rfl | rfl := htyp
  · exact .inl ⟨rfl, by omega⟩
  · exact .inr (.inl ⟨rfl, by omega⟩)
  · exact .inr (.inr ⟨rfl, by omega⟩)

/-- Settles O26: past the checks the lookup finds an opcode by `firstLookup_committed`. -/
theorem mapFirstEffect : Obligations.MapFirstEffect := by
  intro s h
  have hfound (hvalid : s.tableValid = true) (htyp : s.a0 = 1 ∨ s.a0 = 2 ∨ s.a0 = 3)
      (hmode : ¬((s.a0 ≠ 3 ∧ s.a1 ≠ 0) ∨ (s.a0 = 3 ∧ s.a1 > s.maxMode))) :
      firstLookup s.first (s.a0 + s.a1) s.a2 = some ((firstLookup s.first (s.a0 + s.a1) s.a2).getD 0) := by
    obtain ⟨o, ho⟩ := firstLookup_committed h hvalid (pair_of_checked htyp hmode) s.a2
    rw [instIdx_eq_add htyp hmode] at ho
    rw [ho, Option.getD_some]
  refine ⟨_, hfound, ?_⟩
  rw [exec_eq, bodyOf, mapFirstBody, finish_check_refuse (q := s.tableValid = false) (by simp)]
  refine congrArg _ (ite_congr rfl (fun _ => rfl) fun hvalid => finish_checkInstruction_of_valid fun htyp hmode => ?_)
  rw [instIdx_eq_add htyp hmode, (needOpcode_eq_ok _ _).2 (hfound (by simpa using hvalid) htyp hmode), ok_bind, finish_pure,
    ← w64_sizeFollows]
  rfl

/-- Settles O27: past the checks, by whether the lookup finds an opcode. -/
theorem mapSecondEffect : Obligations.MapSecondEffect := by
  intro s
  rw [exec_eq, bodyOf, mapSecondBody, finish_check_refuse (q := s.tableValid = false) (by simp),
    finish_check_refuse (q := s.a0 > 255) (by omega)]
  refine congrArg _ (ite_congr rfl (fun _ => rfl) fun _ => ite_congr rfl (fun _ => rfl) fun _ =>
    finish_checkInstruction_of_valid fun htyp hmode => ?_)
  rw [instIdx_eq_add htyp hmode]
  cases secondLookup s.second (BitVec.ofNat 8 s.a0) (s.a1 + s.a2) s.a3 with
  | none => rfl
  | some c =>
    simp only [← w64_sizeFollows]
    rfl

/-! The reader's side of a lookup: RD_GET over the opcode and the size varint (`42_reader.md` R604). -/

section readerSide

variable {d : State} {o : Byte} {rest : List Byte} {h : Half}

/-- The bytes of IN behind the first unread one. -/
theorem take_drop_of_unread {bytes : List Byte} (hu : d.unread = o :: (bytes ++ rest)) :
    (d.inp.drop (d.rdPos.toNat + 1)).take bytes.length = bytes := by
  have hdrop : (d.inp.take d.rdEnd.toNat).drop (d.rdPos.toNat + 1) = bytes ++ rest := by
    rw [← List.drop_drop, ← State.unread, hu, List.drop_one, List.tail_cons]
  have hlen := congrArg List.length hdrop
  rw [List.length_drop, List.length_take, List.length_append] at hlen
  rw [List.drop_take] at hdrop
  have htake := congrArg (List.take bytes.length) hdrop
  rwa [List.take_take, List.take_left, Nat.min_eq_left (by omega)] at htake

/-- RD_GET over a single opcode returns its first half (R603). -/
theorem exec_rdGet_single (hsession : d.sessionFailed = false) (hactive : d.readerActive = true) (hvalid : d.tableValid = true)
    (hpushback : d.pushbackInst = none) (hpending : d.pendingOp = none) (hu : d.unread = o :: rest)
    (hfirst : (firstHalf d.ct o.toNat).typ ≠ typNoop) (hsecond : (secondHalf d.ct o.toNat).typ = typNoop) :
    exec .rdGet d = .next (sizedReturn d (firstHalf d.ct o.toNat) none (d.rdPos.toNat + 1)) := by
  have hop : ¬bareNoop d.ct o := fun hbare => hfirst hbare.1
  have hget := finish_rdGetOn_skip (skipped := []) (rest := rest) hsession hactive hvalid hpushback hpending (by simp) hop
  rw [returnedHalf, if_neg hfirst, pendingAfter, if_neg fun hdual => hdual.2 hsecond] at hget
  rw [exec_eq, bodyOf, rdGetBody, hu]
  exact congrArg _ hget

/-- The size of a half is the table's, or the varint behind the opcode (R604, R420). -/
theorem sizedReturn_of_unread {size : Nat} (hsize : h.size.toNat = size ∨ h.size = 0) (hle : size ≤ maxField)
    (hend : d.rdEnd.toNat ≤ d.inLen) (hu : d.unread = [o] ++ (if h.size = 0 then venc size else []) ++ rest) :
    sizedReturn d h none (d.rdPos.toNat + 1) = returned d h none size (d.rdEnd.toNat - rest.length) := by
  have hlen := unread_length d
  rw [Nat.min_eq_left hend, hu] at hlen
  by_cases hz : h.size = 0
  · rw [if_pos hz] at hu hlen
    simp only [List.length_append, List.length_singleton] at hlen
    have hpos : d.rdEnd.toNat - rest.length = d.rdPos.toNat + 1 + vlen size := by rw [vlen]; omega
    have hfit : size < 2 ^ 32 := by rw [maxField_eq] at hle; omega
    have hdec : vdec32 d.inp (d.rdPos.toNat + 1) d.rdEnd.toNat = .ok size (d.rdPos.toNat + 1 + vlen size) :=
      vdecLoop_venc (by omega) (Nat.le_of_lt_succ hfit) (vlen_le_five hfit) (take_drop_of_unread hu) (by omega)
    rw [hpos, sizedReturn_of_varint hz hdec hle]
  · rw [if_neg hz] at hlen
    simp only [List.length_append, List.length_singleton, List.length_nil] at hlen
    rw [sizedReturn_of_size_ne_zero hz, hsize.resolve_right hz]
    congr 1
    omega

end readerSide

/-- Settles O28: the rows of both lookups by `firstLookup_row` and `secondLookup_row`; the reader returns the first lookup's row by
`exec_rdGet_single` and `sizedReturn_of_unread`. -/
theorem forwardReverse : Obligations.ForwardReverse := by
  intro s typ m size hinv hvalid hpair hle
  have hkind : typ = typAdd ∧ m = 0 ∨ typ = typRun ∧ m = 0 ∨ typ = typCopy := hpair.imp_right (.imp_right And.left)
  refine ⟨?_, fun f c hc => ?_⟩
  · obtain ⟨o, ho⟩ := firstLookup_committed hinv hvalid hpair size
    obtain ⟨htyp, hmode, hsecond, hsize⟩ := firstLookup_row (hinv.valid hvalid) hkind (hinv.first hvalid ▸ ho)
    refine ⟨o, ho, htyp, hmode, hsecond, hsize, fun d rest hct hcommitted hactive hsession hpushback hpending hend hu => ?_⟩
    have hhalf : { typ := typ, size := (firstHalf s.ct o.toNat).size, mode := BitVec.ofNat 8 m } = firstHalf s.ct o.toNat := by
      rw [← htyp, ← hmode, BitVec.ofNat_toNat, BitVec.setWidth_eq]
    have hfirst : (firstHalf s.ct o.toNat).typ ≠ typNoop := by
      rw [htyp]
      obtain ⟨rfl, _⟩ | ⟨rfl, _⟩ | ⟨rfl, _⟩ := hpair <;> decide
    rw [hhalf, ← sizedReturn_of_unread hsize hle hend hu, ← hct]
    exact exec_rdGet_single hsession hactive hcommitted hpushback hpending hu (hct ▸ hfirst) (hct ▸ hsecond)
  · rw [hinv.second hvalid, hinv.first hvalid] at hc
    obtain ⟨hfirst, -, -, hsecond⟩ := secondLookup_row (hinv.valid hvalid) hkind hc
    exact ⟨hfirst, hsecond⟩

/-! The default table (`30_encoding.md` R320): the key of a row gives its number back, so no two rows collide (`41_codetable.md` R526). -/

/-- A half's key in the maps (R501). -/
abbrev Half.key (h : Half) : Nat := instIdx h.typ h.mode.toNat

/-- The single opcode of the default table with this half. -/
def singleOf (h : Half) : Nat :=
  if h.key = 1 then 1 + h.size.toNat else if h.key = 2 then 0 else 19 + 16 * (h.key - 3) + (h.size.toNat - 3)

/-- The dual opcode of the default table that adds a second half, of this key and size, to single opcode `f`. -/
def dualOf (f k size : Nat) : Nat :=
  if k = 1 then 247 + (f - 20) / 16
  else if k ≤ 8 then 163 + 12 * (k - 3) + 3 * (f - 2) + (size - 4)
  else 235 + 4 * (k - 9) + (f - 2)

section defaultMaps

variable {op o k size : Nat} {f : Byte}

theorem singleOf_le : ∀ op < 256, singleOf (defaultRow op).first ≤ 162 := by decide +kernel

theorem singleOf_first : ∀ op ≤ 162, singleOf (defaultRow op).first = op := by decide +kernel

theorem first_singleOf : ∀ op < 256, (defaultRow (singleOf (defaultRow op).first)).first = (defaultRow op).first := by decide +kernel

theorem dualOf_second : ∀ op < 256, 162 < op →
    dualOf (singleOf (defaultRow op).first) (defaultRow op).second.key (defaultRow op).second.size.toNat = op := by decide +kernel

theorem singleOf_congr {h h' : Half} (hkey : h.key = h'.key) (hsize : h.size.toNat = h'.size.toNat) : singleOf h = singleOf h' := by
  rw [singleOf, singleOf, hkey, hsize]

theorem isFirstRow_default (ho : o < 256) : isFirstRow defaultCt k size o = true ↔
    o ≤ 162 ∧ (defaultRow o).first.key = k ∧ (defaultRow o).first.size.toNat = size := by
  simp only [isFirstRow_iff, firstHalf_default ho, secondHalf_default ho, ne_eq, defaultRow_first_typ, defaultRow_second_typ,
    not_false_eq_true, true_and]

/-- Only one single opcode has the half of row `op`. -/
theorem eq_singleOf_of_isFirstRow (ho : o < 256)
    (hrow : isFirstRow defaultCt (defaultRow op).first.key (defaultRow op).first.size.toNat o = true) :
    o = singleOf (defaultRow op).first := by
  obtain ⟨hsingle, hkey, hsize⟩ := (isFirstRow_default ho).1 hrow
  rw [← singleOf_congr hkey hsize, singleOf_first o hsingle]

/-- FIRST resolves the first half of every row (R526). -/
theorem firstAt_default (hop : op < 256) :
    firstAt (buildFirst defaultCt) (defaultRow op).first.key (defaultRow op).first.size.toNat =
      some (BitVec.ofNat 8 (singleOf (defaultRow op).first)) := by
  have hle := singleOf_le op hop
  have htoNat : (BitVec.ofNat 8 (singleOf (defaultRow op).first)).toNat = singleOf (defaultRow op).first :=
    Nat.mod_eq_of_lt (by omega)
  rw [firstAt_buildFirst, find_opcode_eq_some, htoNat, isFirstRow_default (by omega), first_singleOf op hop]
  exact ⟨⟨hle, rfl, rfl⟩, fun o ho hrow => ho.ne (eq_singleOf_of_isFirstRow (by omega) hrow)⟩

theorem isSecondRow_default (ho : o < 256) : isSecondRow defaultCt (buildFirst defaultCt) f k size o = true ↔
    162 < o ∧ BitVec.ofNat 8 (singleOf (defaultRow o).first) = f ∧ (defaultRow o).second.key = k ∧
      (defaultRow o).second.size.toNat = size := by
  simp only [isSecondRow_iff, firstHalf_default ho, secondHalf_default ho, ne_eq, defaultRow_first_typ, defaultRow_second_typ,
    not_false_eq_true, true_and, firstAt_default ho, Option.some.injEq, not_le]

/-- Only one dual opcode has the halves of row `op`. -/
theorem eq_of_isSecondRow (ho : o < 256) (hop : op < 256) (hdual : 162 < op)
    (hrow : isSecondRow defaultCt (buildFirst defaultCt) (BitVec.ofNat 8 (singleOf (defaultRow op).first)) (defaultRow op).second.key
      (defaultRow op).second.size.toNat o = true) : o = op := by
  obtain ⟨hlt, hfirst, hkey, hsize⟩ := (isSecondRow_default ho).1 hrow
  have hle := singleOf_le o ho
  have hle' := singleOf_le op hop
  have hsingle : singleOf (defaultRow o).first = singleOf (defaultRow op).first := by
    have hmod := congrArg BitVec.toNat hfirst
    simp only [BitVec.toNat_ofNat] at hmod
    omega
  rw [← dualOf_second o ho hlt, hsingle, hkey, hsize, dualOf_second op hop hdual]

theorem secondAt_default (hop : op < 256) (hdual : 162 < op) :
    secondAt (buildSecond defaultCt (buildFirst defaultCt)) (BitVec.ofNat 8 (singleOf (defaultRow op).first))
      (defaultRow op).second.key (defaultRow op).second.size.toNat = some (BitVec.ofNat 8 op) := by
  rw [secondAt_buildSecond, find_opcode_eq_some, BitVec.toNat_ofNat, Nat.mod_eq_of_lt hop, isSecondRow_default hop]
  exact ⟨⟨hdual, rfl, rfl, rfl⟩, fun o ho hrow => ho.ne (eq_of_isSecondRow (by omega) hop hdual hrow)⟩

/-- A dual row whose first half FIRST resolves and whose key is new makes an entry (R505). -/
theorem length_addSecond {ct : List Host.Cell} {fst : List FirstEntry} {m : List SecondEntry} {h h' : Half}
    (hfirst : firstHalf ct op = h) (hsecond : secondHalf ct op = h') (htyp : h.typ ≠ typNoop) (htyp' : h'.typ ≠ typNoop)
    (hf : firstAt fst h.key h.size.toNat = some f) (hnew : secondAt m f h'.key h'.size.toNat = none) :
    (addSecond ct fst m op).length = m.length + 1 := by
  rw [addSecond_eq, hfirst, hsecond, if_pos ⟨htyp, htyp'⟩, hf]
  simp only [hnew, if_true, List.length_append, List.length_singleton]

/-- Pass 1 over the default table adds every single row. -/
theorem length_firstPass (n : Nat) (hn : n ≤ 256) : ((List.range n).foldl (addFirst defaultCt) []).length = min n 163 := by
  induction n with
  | zero => rfl
  | succ n ih =>
    rw [List.range_succ, List.foldl_append, List.foldl_cons, List.foldl_nil, addFirst_eq, firstHalf_default hn,
      secondHalf_default hn]
    by_cases hsingle : n ≤ 162
    · have hnew : firstAt ((List.range n).foldl (addFirst defaultCt) []) (defaultRow n).first.key
          (defaultRow n).first.size.toNat = none := by
        rw [firstAt_pass, Option.map_eq_none_iff, List.find?_eq_none]
        intro o ho hrow
        rw [List.mem_range] at ho
        exact ho.ne ((eq_singleOf_of_isFirstRow (by omega) hrow).trans (singleOf_first n hsingle))
      rw [if_pos ⟨defaultRow_first_typ n, (defaultRow_second_typ n).2 hsingle, hnew⟩, List.length_append, ih (by omega),
        List.length_singleton]
      omega
    · rw [if_neg fun h => hsingle ((defaultRow_second_typ n).1 h.2.1), ih (by omega)]
      omega

/-- Pass 2 over the default table adds every dual row. -/
theorem length_secondPass (n : Nat) (hn : n ≤ 256) :
    ((List.range n).foldl (addSecond defaultCt (buildFirst defaultCt)) []).length = n - 163 := by
  induction n with
  | zero => rfl
  | succ n ih =>
    rw [List.range_succ, List.foldl_append, List.foldl_cons, List.foldl_nil]
    by_cases hdual : 162 < n
    · have hnew : secondAt ((List.range n).foldl (addSecond defaultCt (buildFirst defaultCt)) [])
          (BitVec.ofNat 8 (singleOf (defaultRow n).first)) (defaultRow n).second.key (defaultRow n).second.size.toNat = none := by
        rw [secondAt_pass, Option.map_eq_none_iff, List.find?_eq_none]
        intro o ho hrow
        rw [List.mem_range] at ho
        exact ho.ne (eq_of_isSecondRow (by omega) hn hdual hrow)
      rw [length_addSecond (firstHalf_default hn) (secondHalf_default hn) (defaultRow_first_typ n)
        ((defaultRow_second_typ n).not.2 (by omega)) (firstAt_default hn) hnew, ih (by omega)]
      omega
    · rw [addSecond_eq, secondHalf_default hn, if_neg fun h => h.2 ((defaultRow_second_typ n).2 (by omega)), ih (by omega)]
      omega

end defaultMaps

/-- Settles O29: validation by evaluation; the entries by `firstAt_default` and `secondAt_default`, their numbers by `length_firstPass`
and `length_secondPass`. -/
theorem defaultTable : Obligations.DefaultTable := by
  refine ⟨by decide +kernel, length_firstPass 256 le_rfl, length_secondPass 256 le_rfl,
    fun op hop => ⟨firstHalf_default hop, secondHalf_default hop⟩, fun op hop => ⟨?_, ?_⟩,
    fun op hop hdual => ⟨_, firstAt_default hop, secondAt_default hop hdual⟩⟩
  · simp only [defaultRow, show op ≤ 162 by omega, if_true]
    split_ifs <;> rfl
  · rw [firstAt_default (by omega), singleOf_first op (by omega)]

end Sys2Proof.Machine

/-! The statements of the family `42_reader.md`: the window binding (O31 to O33), RD_UNGET (O36), RD_GET (O34, O4) and its chunk
invariance (O37). -/

namespace Sys2Proof.Machine

/-- A body that begins with the session's check ends the command SESSION_FAILED in a failed session (`60_exceptions.md` R1004). -/
theorem finish_sessionGate (s : State) (g : Unit → Except Failure State) :
    finish s (sessionGate s >>= g) =
      if s.sessionFailed = true then { s with status := .sessionFailed } else finish s (g ()) :=
  finish_check_refuse (by simp) s .sessionFailed g

/-- Settles O31: the three checks in order, then the body's writes. -/
theorem rdStartEffect : Obligations.RdStartEffect := by
  intro s
  rw [exec_eq, bodyOf, rdStartBody, finish_sessionGate,
    finish_check_refuse (q := s.winActive = false ∨ s.tableValid = false) (by simp), finish_check_refuse not_not.symm]
  rfl

/-- Settles O32: the three checks in order, then the body's write. -/
theorem rdExtendEffect : Obligations.RdExtendEffect := by
  intro s
  rw [exec_eq, bodyOf, rdExtendBody, finish_sessionGate, finish_check_refuse (q := s.readerActive = false) (by simp),
    finish_check_refuse not_not.symm]
  rfl

/-- Settles O33: the three checks in order, then the body's write. -/
theorem rdSeekEffect : Obligations.RdSeekEffect := by
  intro s
  rw [exec_eq, bodyOf, rdSeekBody, finish_sessionGate, finish_check_refuse (q := s.readerActive = false) (by simp),
    finish_check_refuse not_not.symm]
  rfl

/-- Settles O36: the two checks in order, then the body's writes. -/
theorem rdUngetEffect : Obligations.RdUngetEffect := by
  intro s
  rw [exec_eq, bodyOf, rdUngetBody, finish_sessionGate,
    finish_check_refuse (q := s.readerActive = false ∨ s.lastInst = none ∨ s.pushbackInst ≠ none) (by simp)]
  rfl

/-! RD_GET as one equation (`42_reader.md` R604): the refusals, the pushback, and what the scan finds. -/

/-- RD_GET that returns the pushed-back record (R604, step 1). -/
def State.afterPushback (s : State) (r : InstRecord) : State :=
  { s with
    pushbackInst := none, lastInst := some r, status := .ok
    res := { r0 := w64 r.typ.toNat, r1 := r.size, r2 := w64 r.mode.toNat, r3 := s.rdPos } }

/-- RD_GET that has scanned (R604, steps 2 to 4): the half with its size, or the end of the stream. -/
def State.afterScan (s : State) : Scan → State
  | .found h pend p => sizedReturn s h pend p
  | .exhausted p => { s with status := .truncated, rdPos := w64 p }

/-- RD_GET gets past its refusals and has no record pushed back, so that it scans. -/
structure State.Scans (s : State) : Prop where
  session : s.sessionFailed = false
  active : s.readerActive = true
  valid : s.tableValid = true
  pushback : s.pushbackInst = none

section rdGet

variable {s : State}

theorem exec_rdGet_failed (h : s.sessionFailed = true) : exec .rdGet s = .next { s with status := .sessionFailed } := by
  rw [exec_eq, bodyOf, rdGetBody, rdGetOn, finish_sessionGate, if_pos h]

theorem exec_rdGet_unready (hsession : s.sessionFailed = false) (h : s.readerActive = false ∨ s.tableValid = false) :
    exec .rdGet s = .next { s with status := .stateError } := by
  rw [exec_eq, bodyOf, rdGetBody, rdGetOn, finish_sessionGate, if_neg (by simp [hsession]),
    finish_check_refuse (q := s.readerActive = false ∨ s.tableValid = false) (by simp), if_pos h]

theorem exec_rdGet_pushback (hsession : s.sessionFailed = false) (hactive : s.readerActive = true) (hvalid : s.tableValid = true)
    {r : InstRecord} (h : s.pushbackInst = some r) : exec .rdGet s = .next (s.afterPushback r) := by
  rw [exec_eq, bodyOf, rdGetBody, rdGetOn, finish_sessionGate, if_neg (by simp [hsession]), finish_check,
    if_pos ⟨hactive, hvalid⟩, h]
  simp only [finish_pure, State.returnRecord, State.setRes, State.afterPushback, w64_of_toNat]

theorem exec_rdGet_scan (h : s.Scans) :
    exec .rdGet s = .next (s.afterScan (nextHalf s.ct s.pendingOp s.unread s.rdPos.toNat)) := by
  obtain ⟨hsession, hactive, hvalid, hpushback⟩ := h
  rw [exec_eq, bodyOf, rdGetBody]
  cases hn : nextHalf s.ct s.pendingOp s.unread s.rdPos.toNat with
  | found hf pend p => rw [rdGetOn_found hsession hactive hvalid hpushback hn, State.afterScan]
  | exhausted p => rw [rdGetOn_exhausted hsession hactive hvalid hpushback hn, State.afterScan]

end rdGet

/-- Settles O34: one lemma per refusal and for the pushback; the rest is what the scan finds. -/
theorem rdGetEffect : Obligations.RdGetEffect := by
  refine fun s => ⟨exec_rdGet_failed, exec_rdGet_unready, fun hsession hactive hvalid =>
    ⟨fun r => exec_rdGet_pushback hsession hactive hvalid, fun hpushback => ?_⟩⟩
  rw [exec_rdGet_scan ⟨hsession, hactive, hvalid, hpushback⟩]
  refine ⟨fun op hpend => ?_, fun hpend => ⟨fun skipped op rest hu hskip hop => ?_, fun hbare => ?_⟩⟩
  · rw [hpend, nextHalf_pending, State.afterScan]
  · rw [hpend, hu, nextHalf_skip hskip, nextHalf_op hop, State.afterScan]
  · have hn : nextHalf s.ct s.pendingOp s.unread s.rdPos.toNat = .exhausted (s.rdPos.toNat + s.unread.length) := by
      rw [hpend]
      exact (nextHalf_eq_exhausted _ _ _ _).2 ⟨hbare, rfl⟩
    rw [hn, State.afterScan]

/-! An opcode row and the RD_GET that reads its byte (`30_encoding.md` R321, log 2). -/

theorem opcode?_of_decode_stream {bytes rest : List Byte} {i : Instr} (h : decode .stream bytes = .ok (i, rest)) :
    ∃ op, i.opcode? = some op ∧ bytes = op :: rest := by
  obtain ⟨hspace, rfl⟩ := encode_of_decode h
  exact ⟨_, if_pos hspace, rfl⟩

/-- With the row's own byte at RD_POS the row is RD_GET. -/
theorem exec_rdGet_of_decode {s : State} {rest : List Byte} {i : Instr} (h : decode .stream s.unread = .ok (i, rest)) :
    exec .rdGet s = exec i s := by
  obtain ⟨op, hi, hu⟩ := opcode?_of_decode_stream h
  rw [exec_eq, exec_eq, bodyOf_opcode hi, unreadFrom_head s hu]
  rfl

/-- With nothing unread no row has a byte to read. -/
theorem exec_opcode_nil {s : State} {op : Byte} {i : Instr} (hi : i.opcode? = some op) (hu : s.unread = []) :
    exec i s = exec .rdGet s := by
  rw [exec_eq, exec_eq, bodyOf_opcode hi, bodyOf, rdGetBody, State.unreadFrom, hu]

/-- Settles O4: the row the next byte decodes to is RD_GET, at the state the command's write leaves too. -/
theorem rdGetRunsOpcodeAtCursor : Obligations.RdGetRunsOpcodeAtCursor := by
  refine ⟨fun s op rest i _ h => exec_rdGet_of_decode h, fun s after op rest i hhost _ h => ?_, fun s i hi hu => ?_⟩
  · rw [step_writeCmd hhost (i := .rdGet) (by decide)]
    exact exec_rdGet_of_decode h
  · obtain ⟨op, hop⟩ := Option.isSome_iff_exists.1 hi
    exact exec_opcode_nil hop hu

/-! Chunk invariance (`42_reader.md` R606): IN grows and RD_END moves further on. -/

/-- The state with these bytes in IN and RD_END at `limit`. -/
def State.withStream (s : State) (inp : List Byte) (limit : Word) : State := { s with inp := inp, rdEnd := limit }

section chunks

variable {s t u : State} {more bytes : List Byte} {limit : Word} {ct : List Host.Cell} {pending pend : Option Byte} {h : Half}
  {p q : Nat}

/-- More bytes do not change a half that was found. -/
theorem nextHalf_append_of_found (hn : nextHalf ct pending bytes p = .found h pend q) (extra : List Byte) :
    nextHalf ct pending (bytes ++ extra) p = .found h pend q := by
  cases pending with
  | some op => rwa [nextHalf_pending] at hn ⊢
  | none =>
    obtain ⟨skipped, op, rest, rfl, hskip, hop, hrest⟩ := (nextHalf_eq_found _ _ _ _ _ _).1 hn
    exact (nextHalf_eq_found _ _ _ _ _ _).2 ⟨skipped, op, rest ++ extra, by simp, hskip, hop, hrest⟩

/-- A scan that ran out goes on with the bytes that come. -/
theorem nextHalf_append_of_exhausted (hn : nextHalf ct pending bytes p = .exhausted q) (extra : List Byte) :
    nextHalf ct pending (bytes ++ extra) p = nextHalf ct pending extra q := by
  cases pending with
  | some op => simp at hn
  | none =>
    obtain ⟨hbare, rfl⟩ := (nextHalf_eq_exhausted _ _ _ _).1 hn
    exact nextHalf_skip hbare extra p

/-- The unread bytes of the longer stream: those of the shorter, then those from its end on. -/
theorem unread_withStream (hpos : s.rdPos.toNat ≤ s.rdEnd.toNat) (hend : s.rdEnd.toNat ≤ s.inLen)
    (hlimit : s.rdEnd.toNat ≤ limit.toNat) :
    (s.withStream (s.inp ++ more) limit).unread =
      s.unread ++ (State.withStream { s with rdPos := s.rdEnd } (s.inp ++ more) limit).unread := by
  have hshort : ((s.inp ++ more).take limit.toNat).take s.rdEnd.toNat = s.inp.take s.rdEnd.toNat := by
    rw [List.take_take, Nat.min_eq_left hlimit, List.take_append_of_le_length hend]
  have hlen : s.rdPos.toNat ≤ (s.inp.take s.rdEnd.toNat).length := by
    rw [List.length_take]
    exact le_min hpos (hpos.trans hend)
  calc (s.withStream (s.inp ++ more) limit).unread
      = (s.inp.take s.rdEnd.toNat ++ ((s.inp ++ more).take limit.toNat).drop s.rdEnd.toNat).drop s.rdPos.toNat := by
        rw [← hshort, List.take_append_drop]
        rfl
    _ = s.unread ++ (State.withStream { s with rdPos := s.rdEnd } (s.inp ++ more) limit).unread :=
        List.drop_append_of_le_length hlen

/-- A scan that ran out stopped at RD_END. -/
theorem exhausted_eq_rdEnd (hpos : s.rdPos.toNat ≤ s.rdEnd.toNat) (hend : s.rdEnd.toNat ≤ s.inLen)
    (hn : nextHalf s.ct s.pendingOp s.unread s.rdPos.toNat = .exhausted q) : q = s.rdEnd.toNat := by
  rw [nextHalf_exhausted hn, unread_length, Nat.min_eq_left hend]
  omega

/-- Steps 3 and 4 of R604 through the size of the half. -/
theorem sizedReturn_eq : sizedReturn s h pend p = finish s ((halfSize s h p).map fun r => returned s h pend r.1 r.2) := by
  unfold sizedReturn halfSize
  by_cases hsize : h.size = 0
  · rw [if_neg (not_not.2 hsize), if_neg (not_not.2 hsize)]
    cases vdec32 s.inp p s.rdEnd.toNat with
    | truncated => rfl
    | malformed => rfl
    | ok v q => by_cases hv : v > maxField <;> simp only [hv, if_true, if_false] <;> rfl
  · rw [if_pos hsize, if_pos hsize]
    rfl

theorem halfSize_error {f : Failure} (hf : halfSize s h p = .error f) : f = .plain .truncated ∨ f = .stream .malformed := by
  unfold halfSize at hf
  split at hf
  · cases hf
  · split at hf
    · exact .inl (Except.error.inj hf).symm
    · exact .inr (Except.error.inj hf).symm
    · split at hf
      · exact .inr (Except.error.inj hf).symm
      · cases hf

/-- More bytes change the size of a half only where its varint was TRUNCATED. -/
theorem halfSize_withStream (hend : s.rdEnd.toNat ≤ s.inLen) (hlimit : s.rdEnd.toNat ≤ limit.toNat)
    (hs : halfSize s h p ≠ .error (.plain .truncated)) : halfSize (s.withStream (s.inp ++ more) limit) h p = halfSize s h p := by
  unfold halfSize at hs ⊢
  by_cases hsize : h.size = 0
  · rw [if_neg (not_not.2 hsize)] at hs ⊢
    rw [if_neg (not_not.2 hsize)]
    have hdec : vdec32 (s.inp ++ more) p limit.toNat = vdec32 s.inp p s.rdEnd.toNat := by
      cases hv : vdec32 s.inp p s.rdEnd.toNat with
      | truncated => simp [hv] at hs
      | malformed => exact vdecLoop_malformed_extend more hend hlimit hv
      | ok v q =>
        obtain ⟨_, hq, _⟩ := vdecLoop_ok hv
        exact vdecLoop_ok_extend more hv (hq.trans hlimit)
    rw [State.withStream, hdec]
  · rw [if_pos hsize, if_pos hsize]

/-- RD_GET on a found half ends the same with more bytes, unless it was TRUNCATED. -/
theorem sizedReturn_withStream (hend : s.rdEnd.toNat ≤ s.inLen) (hlimit : s.rdEnd.toNat ≤ limit.toNat)
    (hs : (sizedReturn s h pend p).status ≠ .truncated) :
    sizedReturn (s.withStream (s.inp ++ more) limit) h pend p = (sizedReturn s h pend p).withStream (s.inp ++ more) limit := by
  rw [sizedReturn_eq] at hs
  rw [sizedReturn_eq, sizedReturn_eq, halfSize_withStream hend hlimit fun htrunc => hs (by rw [htrunc]; rfl)]
  cases halfSize s h p with
  | ok r => rfl
  | error f => cases f <;> rfl

/-- A TRUNCATED size commits nothing. -/
theorem sizedReturn_truncated (hs : (sizedReturn s h pend p).status = .truncated) :
    sizedReturn s h pend p = { s with status := .truncated } := by
  rw [sizedReturn_eq] at hs ⊢
  cases hz : halfSize s h p with
  | ok r => rw [hz] at hs; cases hs
  | error f =>
    obtain rfl | rfl := halfSize_error hz
    · rfl
    · rw [hz] at hs; cases hs

/-- An RD_GET that scans and ends OK depends on RD_POS only through what the scan finds. -/
theorem afterScan_of_ok {scan : Scan} (hok : (s.afterScan scan).status = .ok) (pos : Word) (st : Status) :
    { s with rdPos := pos, status := st }.afterScan scan = s.afterScan scan := by
  cases scan with
  | exhausted p => cases hok
  | found h pend p =>
    simp only [State.afterScan, sizedReturn_eq] at hok ⊢
    rw [show halfSize { s with rdPos := pos, status := st } h p = halfSize s h p from rfl]
    cases hz : halfSize s h p with
    | ok r => rfl
    | error f =>
      rw [hz] at hok
      obtain rfl | rfl := halfSize_error hz <;> cases hok

/-- An RD_GET that does not scan reads nothing of IN. -/
theorem exec_rdGet_withStream_of_not_scans (hscan : ¬s.Scans) (inp : List Byte) (limit : Word) (ht : exec .rdGet s = .next t) :
    t.status ≠ .truncated ∧ exec .rdGet (s.withStream inp limit) = .next (t.withStream inp limit) := by
  by_cases hsession : s.sessionFailed = true
  · cases (exec_rdGet_failed hsession).symm.trans ht
    exact ⟨by simp, exec_rdGet_failed hsession⟩
  rw [Bool.not_eq_true] at hsession
  by_cases hready : s.readerActive = false ∨ s.tableValid = false
  · cases (exec_rdGet_unready hsession hready).symm.trans ht
    exact ⟨by simp, exec_rdGet_unready hsession hready⟩
  obtain ⟨hactive, hvalid⟩ : s.readerActive = true ∧ s.tableValid = true := by simpa using hready
  cases hpush : s.pushbackInst with
  | none => exact absurd ⟨hsession, hactive, hvalid, hpush⟩ hscan
  | some r =>
    cases (exec_rdGet_pushback hsession hactive hvalid hpush).symm.trans ht
    exact ⟨by simp [State.afterPushback], exec_rdGet_pushback (s := s.withStream inp limit) hsession hactive hvalid hpush⟩

/-- The retry of an RD_GET at a position from which the scan finds the same. -/
theorem exec_rdGet_retry (hscan : s.Scans) {pos : Word}
    (hnext : nextHalf s.ct s.pendingOp { s with rdPos := pos }.unread pos.toNat = nextHalf s.ct s.pendingOp s.unread s.rdPos.toNat)
    (hu : exec .rdGet s = .next u) (hok : u.status = .ok) (st : Status) :
    exec .rdGet { s with rdPos := pos, status := st } = .next u := by
  have hscan' : State.Scans { s with rdPos := pos, status := st } := ⟨hscan.session, hscan.active, hscan.valid, hscan.pushback⟩
  cases (exec_rdGet_scan hscan).symm.trans hu
  rw [exec_rdGet_scan hscan', ← afterScan_of_ok hok pos st, ← hnext]
  rfl

end chunks

/-- Settles O37: a found half ends the same with more bytes (`sizedReturn_withStream`); after TRUNCATED the retry scans from where the
first RD_GET stopped and finds the same half (`exec_rdGet_retry`). -/
theorem readerChunkInvariance : Obligations.ReaderChunkInvariance := by
  rintro s t _ more limit hpos hend hlimit - rfl ht
  by_cases hscan : s.Scans
  swap
  · obtain ⟨hne, hlong⟩ := exec_rdGet_withStream_of_not_scans hscan (s.inp ++ more) limit ht
    exact ⟨fun _ => hlong, fun u htrunc => absurd htrunc hne⟩
  have hscan' : (s.withStream (s.inp ++ more) limit).Scans := ⟨hscan.session, hscan.active, hscan.valid, hscan.pushback⟩
  have hunread := unread_withStream (more := more) hpos hend hlimit
  cases (exec_rdGet_scan hscan).symm.trans ht
  cases hn : nextHalf s.ct s.pendingOp s.unread s.rdPos.toNat with
  | found h pend p =>
    have hn' := nextHalf_append_of_found hn (State.withStream { s with rdPos := s.rdEnd } (s.inp ++ more) limit).unread
    rw [← hunread] at hn'
    refine ⟨fun hne => ?_, fun u htrunc hu hok => ?_⟩
    · rw [State.afterScan] at hne
      refine (exec_rdGet_scan hscan').trans (congrArg _ ?_)
      exact (congrArg _ hn').trans (sizedReturn_withStream hend hlimit hne)
    · rw [State.afterScan] at htrunc ⊢
      rw [sizedReturn_truncated htrunc]
      exact exec_rdGet_retry hscan' rfl hu hok .truncated
  | exhausted q =>
    obtain rfl := exhausted_eq_rdEnd hpos hend hn
    refine ⟨fun hne => absurd rfl hne, fun u _ hu hok => ?_⟩
    have hnext := nextHalf_append_of_exhausted hn (State.withStream { s with rdPos := s.rdEnd } (s.inp ++ more) limit).unread
    rw [← hunread] at hnext
    rw [State.afterScan, w64_of_toNat]
    exact exec_rdGet_retry hscan' hnext.symm hu hok .truncated

end Sys2Proof.Machine

/-! The statements of the family `43_window_writer.md`: the instruction commands (O38 to O40), the window and the header (O41 to O43),
and the two round trips (O44, O48). -/

namespace Sys2Proof.Machine

/-! The commit shared by WR_ADD, WR_RUN and WR_COPY (`43_window_writer.md` R700 to R702). -/

/-- The payload goes to the data section, not to the addresses section (R701). -/
def Payload.isData : Payload → Bool
  | .toData _ => true
  | .toAddrs _ => false

section commit

variable {s : State} {typ : Byte} {size mode : Nat}

/-- A body that begins with the writer's checks ends the command STATE_ERROR without a header or without a committed table; the rest
is told only for a committed table. -/
theorem finish_writerGate {u : State} {g : Unit → Except Failure State} (h : s.tableValid = true → finish s (g ()) = u) :
    finish s (writerGate s >>= g) =
      if s.encOpen = false then { s with status := .stateError }
      else if s.tableValid = false then { s with status := .stateError }
      else u := by
  rw [writerGate, bind_assoc, finish_check_refuse (q := s.encOpen = false) (by simp),
    finish_check_refuse (q := s.tableValid = false) (by simp)]
  exact ite_congr rfl (fun _ => rfl) fun _ => ite_congr rfl (fun _ => rfl) fun hvalid => h (by simpa using hvalid)

theorem pairing_eq_bind (s : State) (k size : Nat) : pairing s k size =
    s.wrLast.bind fun pos => (s.insts[pos]?).bind fun f => (secondLookup s.second f k size).map (pos, ·) := by
  unfold pairing
  cases s.wrLast with
  | none => rfl
  | some pos => cases hf : s.insts[pos]? <;> simp [hf]

/-- With an opcode for the instruction `emit` cannot fail. -/
theorem emit_eq_emitted {o : Byte} (ho : firstLookup s.first (instIdx typ mode) size = some o) :
    emit s typ size mode = .ok { insts := (emitted s typ size mode).1, last := (emitted s typ size mode).2 } := by
  rw [emit, emitted, ← pairing_eq_bind]
  cases pairing s (instIdx typ mode) size with
  | some pc => rfl
  | none =>
    simp only [ho, Option.getD_some]
    rfl

/-- The regions once the payload stands behind what `emit` left. -/
theorem appendPayload_regions (s : State) (p : Payload) : s.appendPayload p = { s with
    insts := if s.wrInterleaved then s.insts ++ p.bytes else s.insts
    data := if s.wrInterleaved = false ∧ p.isData = true then s.data ++ p.bytes else s.data
    addrs := if s.wrInterleaved = false ∧ p.isData = false then s.addrs ++ p.bytes else s.addrs } := by
  cases hi : s.wrInterleaved <;> cases p <;> simp [State.appendPayload, hi, Payload.isData, Payload.bytes]

/-- The checks of R700 (4) and (5) refuse, or the regions take the instruction. -/
theorem finish_addInstruction (h : InvTable s) (hvalid : s.tableValid = true)
    (hpair : typ = typAdd ∧ mode = 0 ∨ typ = typRun ∧ mode = 0 ∨ typ = typCopy ∧ mode ≤ s.maxMode) (p : Payload) :
    finish s (addInstruction s typ size mode p) = written s typ size mode p.isData p.bytes := by
  obtain ⟨o, ho⟩ := firstLookup_committed h hvalid hpair size
  rw [addInstruction, finish_check_refuse (q := s.wrTargetLen.toNat + size > maxField) not_lt.symm, emit_eq_emitted ho, ok_bind,
    appendPayload_regions, finish_check_refuse not_lt.symm]
  rfl

end commit

/-- Settles O38: the checks in order, then the shared commit. -/
theorem wrAddEffect : Obligations.WrAddEffect := by
  intro s h
  rw [exec_eq, bodyOf, wrAddBody]
  refine congrArg _ (finish_writerGate fun hvalid => ?_)
  rw [finish_check_refuse (q := s.a0 + s.a1 > s.inLen) not_lt.symm, finish_addInstruction h hvalid (.inl ⟨rfl, rfl⟩)]
  rfl

/-- Settles O39: the checks in order, then the shared commit. -/
theorem wrRunEffect : Obligations.WrRunEffect := by
  intro s h
  rw [exec_eq, bodyOf, wrRunBody]
  refine congrArg _ (finish_writerGate fun hvalid => ?_)
  rw [finish_check_refuse (q := s.a0 > 255) not_lt.symm, finish_check_refuse (q := s.a1 > maxField) not_lt.symm,
    finish_addInstruction h hvalid (.inr (.inl ⟨rfl, rfl⟩))]
  rfl

/-- Settles O40: the checks in order, the address by the mode, then the shared commit. -/
theorem wrCopyEffect : Obligations.WrCopyEffect := by
  intro s h
  rw [exec_eq, bodyOf, wrCopyBody]
  refine congrArg _ (finish_writerGate fun hvalid => ?_)
  rw [finish_check_refuse (q := s.a1 > s.maxMode) not_lt.symm, finish_check_refuse (q := s.a0 > maxField) not_lt.symm,
    finish_check_refuse not_lt.symm]
  refine ite_congr rfl (fun _ => rfl) fun hmode => ite_congr rfl (fun _ => rfl) fun _ => ?_
  rw [finish_addInstruction h hvalid (.inr (.inr ⟨rfl, not_lt.1 hmode⟩))]
  by_cases hsame : isSameMode s s.a1
  · simp only [addressBytes, if_pos hsame]
    rfl
  · simp only [addressBytes, if_neg hsame]
    rfl

/-! The window's output and the file header (R706, R707, R710, R721). -/

/-- R721: the length of a window's body. -/
theorem windowBody_length (s : State) (checksum : Nat) : (windowBody s checksum).length =
    vlen s.wrTargetLen.toNat + 1 + vlen s.data.length + vlen s.insts.length + vlen s.addrs.length
      + (if s.wrChecksum = true then vlen checksum else 0) + s.data.length + s.insts.length + s.addrs.length := by
  simp only [windowBody, List.length_append, List.length_singleton, apply_ite List.length, List.length_nil, vlen]

/-- R721: the length of a window. -/
theorem windowBytes_length (s : State) (flags srcLen srcPos checksum : Nat) : (windowBytes s flags srcLen srcPos checksum).length =
    1 + (if flags ≠ 0 then vlen srcLen + vlen srcPos else 0) + vlen (windowBody s checksum).length
      + (windowBody s checksum).length := by
  simp only [windowBytes, List.length_append, List.length_singleton, apply_ite List.length, List.length_nil, vlen]

/-- The version byte: whether the extended format may follow (R332). -/
def State.version (s : State) : Byte := if s.wrInterleaved || s.wrChecksum then versionExtended else versionStandard

/-- Five bytes, then the fields of a custom table (R330). -/
theorem fileHeaderBytes_eq (s : State) (custom : Bool) (n : Nat) : fileHeaderBytes s custom n =
    [magic1, magic2, magic3, s.version, if custom then 0x02 else 0x00]
      ++ if custom then venc (n + 2) ++ [BitVec.ofNat 8 s.nearSize.toNat, BitVec.ofNat 8 s.sameSize.toNat] else [] := by
  cases custom <;> rfl

/-- Settles O41: the checks in order, and R721's lengths. -/
theorem wrOutputEffect : Obligations.WrOutputEffect := by
  refine fun s => ⟨?_, windowBody_length s s.a3, windowBytes_length s s.a0 s.a1 s.a2 s.a3⟩
  rw [exec_eq, bodyOf, wrOutputBody, finish_check_refuse (q := s.encOpen = false) (by simp),
    finish_check_refuse (q := ¬(s.a0 = 0 ∨ s.a0 = 1 ∨ s.a0 = 2)) (by omega),
    finish_check_refuse (q := s.a0 ≠ 0 ∧ ¬(s.a1 ≤ maxField ∧ s.a2 ≤ maxField ∧ s.a1 + s.a2 ≤ maxField)) (by tauto),
    finish_check_refuse (q := s.wrChecksum = true ∧ s.a3 > 2 ^ 32 - 1) (by simp), finish_ite,
    finish_check_refuse (q := (windowBody s s.a3).length > maxField) not_lt.symm]
  rfl

/-- Settles O42: the body is the emptied window. -/
theorem wrDiscardEffect : Obligations.WrDiscardEffect := fun s => exec_eq .wrDiscard s

/-- Settles O43: the checks in order; the header by whether a custom table is announced. -/
theorem fhWriteEffect : Obligations.FhWriteEffect := by
  intro s
  rw [exec_eq, bodyOf, fhWriteBody, finish_check_refuse (q := s.encOpen = true) (by simp),
    finish_check_refuse (q := s.a0 > 1) not_lt.symm, finish_check_refuse (q := s.a0 = 1 ∧ s.tableValid = false) (by simp),
    finish_check_refuse (q := s.a0 = 1 ∧ s.a1 > maxField - 2) (by simp)]
  refine congrArg _ (ite_congr rfl (fun _ => rfl) fun _ => ite_congr rfl (fun _ => rfl) fun hflags =>
    ite_congr rfl (fun _ => rfl) fun _ => ite_congr rfl (fun _ => rfl) fun _ => ?_)
  rw [finish_pure, fileHeaderBytes_eq]
  obtain h0 | h1 : s.a0 = 0 ∨ s.a0 = 1 := by omega
  · simp only [h0, State.version, Bool.or_eq_true]
    rfl
  · simp only [h1, State.version, Bool.or_eq_true]
    rfl

/-! The parsers' field readers over the bytes the writers append (`44_window_parser.md` R800). -/

section fieldReaders

variable {d : State} {p v : Nat} {xs ys rest : List Byte} {b : Byte}

theorem drop_add_length {inp : List Byte} (h : inp.drop p = xs ++ ys) : inp.drop (p + xs.length) = ys := by
  rw [← List.drop_drop, h, List.drop_left]

/-- Bytes found at a position lie within the sequence. -/
theorem add_length_le_of_drop {inp : List Byte} (h : inp.drop p = xs ++ ys) (hpos : 0 < xs.length) :
    p + xs.length ≤ inp.length := by
  have hlen := congrArg List.length h
  rw [List.length_drop, List.length_append] at hlen
  omega

theorem drop_add_vlen {inp : List Byte} (h : inp.drop p = venc v ++ ys) : inp.drop (p + vlen v) = ys := drop_add_length h

theorem need_of_drop {n : Nat} (h : d.inp.drop p = xs) (hb : xs[n]? = some b) : need d (p + n) = .ok b := by
  rw [need_eq_ok, ← List.getElem?_drop, h, hb]

theorem need_head (h : d.inp.drop p = b :: xs) : need d p = .ok b := need_of_drop (n := 0) h rfl

theorem vdec32_venc {inp : List Byte} (hv : v ≤ varint32Max) (h : inp.drop p = venc v ++ rest) :
    vdec32 inp p inp.length = .ok v (p + vlen v) := by
  rw [varint32Max_eq] at hv
  exact vdecLoop_venc (by omega) hv (vlen_le_five (by omega)) (by rw [h, vlen, List.take_left])
    (add_length_le_of_drop h (vlen_pos v))

theorem ck32_venc (hv : v ≤ varint32Max) (h : d.inp.drop p = venc v ++ rest) : ck32 d p = .ok (v, p + vlen v) :=
  (ck32_eq_ok ..).2 (vdec32_venc hv h)

theorem field32_venc (hv : v ≤ maxField) (h : d.inp.drop p = venc v ++ rest) : field32 d p = .ok (v, p + vlen v) :=
  (field32_eq_ok ..).2 ⟨vdec32_venc (hv.trans (by decide)) h, hv⟩

end fieldReaders

/-! FH_PARSE over a written file header (R710, `44_window_parser.md` R801). -/

section fileHeader

variable {s d : State} {p n : Nat} {custom : Bool} {near same : Byte} {rest : List Byte}

theorem version_cases (s : State) : s.version = versionStandard ∨ s.version = versionExtended := by
  unfold State.version
  split
  · exact .inr rfl
  · exact .inl rfl

theorem version_beq_extended (s : State) : (s.version == versionExtended) = (s.wrInterleaved || s.wrChecksum) := by
  unfold State.version
  cases s.wrInterleaved || s.wrChecksum <;> rfl

theorem customFields_of_drop (hn : n ≤ maxField - 2) (hcaches : near.toNat + same.toNat ≤ cacheLimit)
    (h : d.inp.drop p = venc (n + 2) ++ [near, same] ++ rest) :
    customFields d p = .ok (p + vlen (n + 2) + 2, n, near.toNat + 256 * same.toNat) := by
  rw [List.append_assoc] at h
  have hlen : n + 2 ≤ maxField := by rw [maxField_eq] at hn ⊢; omega
  have hnear : need d (p + vlen (n + 2)) = .ok near := need_head (drop_add_vlen h)
  have hsame : need d (p + vlen (n + 2) + 1) = .ok same := need_of_drop (drop_add_vlen h) rfl
  simp only [customFields, field32_venc hlen h, hnear, hsame, ok_bind, check_of (Nat.le_add_left 2 n), check_of hcaches,
    Nat.add_sub_cancel, pure_eq_ok]

/-- The first five bytes of a header, with what its custom-table fields read as. -/
theorem parseFileHeader_of_drop {fields : Nat × Nat × Nat} (hfields : custom = true → customFields d (p + 5) = .ok fields)
    (h : d.inp.drop p = [magic1, magic2, magic3, s.version, if custom then 0x02 else 0x00] ++ rest) :
    parseFileHeader d p = .ok
      { next := if custom then fields.1 else p + 5, extended := s.wrInterleaved || s.wrChecksum, custom := custom
        tableLen := if custom then fields.2.1 else 0, caches := if custom then fields.2.2 else 0 } := by
  have h0 : need d p = .ok magic1 := need_head h
  have h1 : need d (p + 1) = .ok magic2 := need_of_drop h rfl
  have h2 : need d (p + 2) = .ok magic3 := need_of_drop h rfl
  have h3 : need d (p + 3) = .ok s.version := need_of_drop h rfl
  have h4 : need d (p + 4) = .ok (if custom then 0x02 else 0x00) := need_of_drop h rfl
  simp only [parseFileHeader, expectByte, h0, h1, h2, h3, h4, ok_bind, check_of (version_cases s), version_beq_extended]
  cases custom with
  | false => rfl
  | true =>
    rw [hfields rfl]
    rfl

/-- What FH_PARSE reads of a header the writer appended. -/
theorem parseFileHeader_fileHeaderBytes (hinv : InvTable s) (hn : custom = true → n ≤ maxField - 2)
    (h : d.inp.drop p = fileHeaderBytes s custom n ++ rest) :
    parseFileHeader d p = .ok
      { next := p + (fileHeaderBytes s custom n).length, extended := s.wrInterleaved || s.wrChecksum, custom := custom
        tableLen := if custom then n else 0, caches := if custom then s.nearSize.toNat + 256 * s.sameSize.toNat else 0 } := by
  have hcaches := hinv.caches
  rw [cacheLimit_eq] at hcaches
  have hnear : (BitVec.ofNat 8 s.nearSize.toNat).toNat = s.nearSize.toNat := Nat.mod_eq_of_lt (by omega)
  have hsame : (BitVec.ofNat 8 s.sameSize.toNat).toNat = s.sameSize.toNat := Nat.mod_eq_of_lt (by omega)
  rw [fileHeaderBytes_eq, List.append_assoc] at h
  have hfields (hc : custom = true) :
      customFields d (p + 5) = .ok (p + 5 + vlen (n + 2) + 2, n, s.nearSize.toNat + 256 * s.sameSize.toNat) := by
    have htail : d.inp.drop (p + 5) = _ := drop_add_length h
    rw [if_pos hc] at htail
    rw [customFields_of_drop (hn hc) (by rw [hnear, hsame]; exact hcaches) htail, hnear, hsame]
  have hnext : p + (fileHeaderBytes s custom n).length = if custom then p + 5 + vlen (n + 2) + 2 else p + 5 := by
    rw [fileHeaderBytes_eq]
    cases custom with
    | false => rfl
    | true =>
      simp only [if_true, vlen, List.length_append, List.length_cons, List.length_nil]
      omega
  rw [parseFileHeader_of_drop hfields h, hnext]

/-- FH_PARSE takes the header FH_WRITE appended. -/
theorem exec_fhParse_of_written (hinv : InvTable s) (hflags : s.a0 ≤ 1) (hn : s.a0 = 1 → s.a1 ≤ maxField - 2)
    (hsession : d.sessionFailed = false) (hclosed : d.decOpen = false)
    (h : d.inp.drop d.a0 = fileHeaderBytes s (s.a0 == 1) s.a1 ++ rest) :
    exec .fhParse d = .next { d with
      decOpen := true, extAllowed := s.wrInterleaved || s.wrChecksum, status := .ok
      res :=
        { r0 := w64 (d.a0 + (fileHeaderBytes s (s.a0 == 1) s.a1).length), r1 := s.arg.r0, r2 := if s.a0 = 1 then s.arg.r1 else 0
          r3 := if s.a0 = 1 then w64 (s.nearSize.toNat + 256 * s.sameSize.toNat) else 0 } } := by
  have hin : d.a0 ≤ d.inLen := Nat.le_of_add_right_le
    (add_length_le_of_drop h (by rw [fileHeaderBytes_eq]; exact Nat.succ_pos _))
  have hr0 : s.arg.r0 = w64 s.a0 := (w64_of_toNat _).symm
  have hr1 : s.arg.r1 = w64 s.a1 := (w64_of_toNat _).symm
  rw [exec_eq, bodyOf, fhParseBody, sessionGate, check_of hsession, ok_bind, check_of hclosed, ok_bind, check_of hin, ok_bind,
    parseFileHeader_fileHeaderBytes hinv (by simpa using hn) h, ok_bind, hr0, hr1]
  obtain h0 | h1 : s.a0 = 0 ∨ s.a0 = 1 := by omega
  · simp only [h0]
    rfl
  · simp only [h1]
    rfl

end fileHeader

/-! WH_PARSE over a written window (R706, R721, `44_window_parser.md` R810). -/

section windowFields

/-- Win_Indicator as WR_OUTPUT writes it (R341). -/
def indicatorByte (flags : Nat) (checksum : Bool) : Byte := BitVec.ofNat 8 (flags + if checksum then 4 else 0)

/-- Fields 2 and 3 of the window (R340). -/
def sourceFields (flags srcLen srcPos : Nat) : List Byte := if flags ≠ 0 then venc srcLen ++ venc srcPos else []

/-- Field 10 of the window (R340). -/
def checksumBytes (s : State) (checksum : Nat) : List Byte := if s.wrChecksum then venc checksum else []

/-- Fields 5 to 10 of the window: the body before its sections (R340). -/
def bodyFields (s : State) (checksum : Nat) : List Byte :=
  venc s.wrTargetLen.toNat ++ [0] ++ venc s.data.length ++ venc s.insts.length ++ venc s.addrs.length ++ checksumBytes s checksum

/-- Where the sections of a window begin, the window standing at `p`. -/
def sectionsAt (s : State) (flags srcLen srcPos checksum p : Nat) : Nat :=
  p + 1 + (sourceFields flags srcLen srcPos).length + vlen (windowBody s checksum).length + (bodyFields s checksum).length

variable {s d : State} {flags srcLen srcPos checksum p : Nat} {rest : List Byte}

theorem windowBody_eq (s : State) (checksum : Nat) :
    windowBody s checksum = bodyFields s checksum ++ s.data ++ s.insts ++ s.addrs := rfl

theorem windowBytes_eq (s : State) (flags srcLen srcPos checksum : Nat) : windowBytes s flags srcLen srcPos checksum =
    [indicatorByte flags s.wrChecksum] ++ sourceFields flags srcLen srcPos ++ venc (windowBody s checksum).length
      ++ windowBody s checksum := rfl

/-- A window field by field, whatever follows it (R340). -/
theorem windowBytes_append (s : State) (flags srcLen srcPos checksum : Nat) (rest : List Byte) :
    windowBytes s flags srcLen srcPos checksum ++ rest =
      [indicatorByte flags s.wrChecksum] ++ (sourceFields flags srcLen srcPos ++ (venc (windowBody s checksum).length ++
        (venc s.wrTargetLen.toNat ++ ([0] ++ (venc s.data.length ++ (venc s.insts.length ++ (venc s.addrs.length ++
          (checksumBytes s checksum ++ (s.data ++ (s.insts ++ (s.addrs ++ rest))))))))))) := by
  simp only [windowBytes_eq, windowBody_eq, bodyFields, List.append_assoc]

theorem windowBody_length_eq (s : State) (checksum : Nat) : (windowBody s checksum).length =
    (bodyFields s checksum).length + s.data.length + s.insts.length + s.addrs.length := by
  simp only [windowBody_eq, List.length_append]

/-- The window ends with its sections. -/
theorem add_windowBytes_length (s : State) (flags srcLen srcPos checksum p : Nat) :
    p + (windowBytes s flags srcLen srcPos checksum).length =
      sectionsAt s flags srcLen srcPos checksum p + s.data.length + s.insts.length + s.addrs.length := by
  simp only [windowBytes_eq, List.length_append, List.length_singleton, sectionsAt, windowBody_length_eq, vlen]
  omega

theorem indicatorByte_bits (hflags : flags < 3) (c : Bool) :
    (indicatorByte flags c).toNat = flags + (if c then 4 else 0) ∧ (indicatorByte flags c).getLsbD 0 = decide (flags = 1) ∧
      (indicatorByte flags c).getLsbD 1 = decide (flags = 2) ∧ (indicatorByte flags c).getLsbD 2 = c := by
  obtain rfl | rfl | rfl : flags = 0 ∨ flags = 1 ∨ flags = 2 := by omega
  all_goals revert c; decide

theorem checkIndicator_indicatorByte (hflags : flags < 3) (hext : s.wrChecksum = true → d.extAllowed = true)
    (htarget : flags = 2 → d.allowVcdTarget = true) : checkIndicator d (indicatorByte flags s.wrChecksum) = .ok () := by
  obtain ⟨hval, hbit0, hbit1, hbit2⟩ := indicatorByte_bits hflags s.wrChecksum
  have hrange : (indicatorByte flags s.wrChecksum).toNat / 8 = 0 := by
    rw [hval]
    split <;> omega
  have hboth : ¬(flags = 1 ∧ flags = 2) := by omega
  simp only [checkIndicator, hbit0, hbit1, hbit2, decide_eq_true_eq, check_of hrange, check_of hboth, check_of hext,
    check_of htarget, ok_bind]

/-- The source segment lies in the dictionary or in the decoded target (R812). -/
abbrev sourceFits (d : State) (flags srcLen srcPos : Nat) : Prop :=
  (flags = 1 → srcLen + srcPos ≤ d.dictSize.toNat) ∧ (flags = 2 → srcLen + srcPos ≤ d.decTargetTotal.toNat)

theorem sourceSegment_sourceFields (hflags : flags < 3) (c : Bool)
    (hsrc : flags ≠ 0 → srcLen ≤ maxField ∧ srcPos ≤ maxField ∧ srcLen + srcPos ≤ maxField)
    (hfits : sourceFits d flags srcLen srcPos) (h : d.inp.drop p = sourceFields flags srcLen srcPos ++ rest) :
    sourceSegment d (indicatorByte flags c) p =
      .ok (if flags ≠ 0 then srcLen else 0, if flags ≠ 0 then srcPos else 0, p + (sourceFields flags srcLen srcPos).length) := by
  obtain ⟨-, hbit0, hbit1, -⟩ := indicatorByte_bits hflags c
  simp only [sourceSegment, hbit0, hbit1]
  by_cases hzero : flags = 0
  · simp [hzero, sourceFields]
  · obtain ⟨hlen, hpos, hsum⟩ := hsrc hzero
    have hlimit : srcLen + srcPos ≤ (if decide (flags = 1) = true then d.dictSize.toNat else d.decTargetTotal.toNat) := by
      by_cases hone : flags = 1
      · simpa [hone] using hfits.1 hone
      · simpa [hone] using hfits.2 (by omega)
    rw [sourceFields, if_pos hzero, List.append_assoc] at h
    rw [if_pos (by simp; omega), if_pos hzero, if_pos hzero, sourceFields, if_pos hzero, List.length_append, ← Nat.add_assoc]
    simp only [field32_venc hlen h, field32_venc hpos (drop_add_vlen h), ok_bind, check_of hsum, check_of hlimit]
    rfl

theorem checksumField_checksumBytes (hflags : flags < 3) (hsum : s.wrChecksum = true → checksum ≤ varint32Max)
    (h : d.inp.drop p = checksumBytes s checksum ++ rest) : checksumField d (indicatorByte flags s.wrChecksum) p =
      .ok (if s.wrChecksum then checksum else 0, p + (checksumBytes s checksum).length) := by
  obtain ⟨-, -, -, hbit2⟩ := indicatorByte_bits hflags s.wrChecksum
  rw [checksumField, hbit2]
  cases hc : s.wrChecksum with
  | false => simp [checksumBytes, hc]
  | true =>
    rw [checksumBytes, hc, if_pos rfl] at h ⊢
    rw [if_pos rfl, if_pos rfl, ck32_venc (hsum hc) h, vlen]

/-- The W_ registers WH_PARSE gives a written window at `p`. -/
def writtenRegs (s d : State) (flags srcLen srcPos checksum p : Nat) : WindowRegs :=
  windowRegs d (indicatorByte flags s.wrChecksum) (if flags ≠ 0 then srcLen else 0) (if flags ≠ 0 then srcPos else 0)
    (windowBody s checksum).length s.wrTargetLen.toNat 0 s.data.length s.insts.length s.addrs.length
    (if s.wrChecksum then checksum else 0) (sectionsAt s flags srcLen srcPos checksum p)

/-- The window passes WR_OUTPUT's checks (R706). -/
structure OutputPasses (s : State) (flags srcLen srcPos checksum : Nat) : Prop where
  flagsOk : flags < 3
  sourceOk : flags ≠ 0 → srcLen ≤ maxField ∧ srcPos ≤ maxField ∧ srcLen + srcPos ≤ maxField
  checksumOk : s.wrChecksum = true → checksum ≤ varint32Max
  bodyOk : (windowBody s checksum).length ≤ maxField
  targetOk : s.wrTargetLen.toNat ≤ maxField

/-- The window passes the limits WH_PARSE holds it against (R811 to R813). -/
structure ParseAllows (d s : State) (flags srcLen srcPos : Nat) : Prop where
  checksum : s.wrChecksum = true → d.extAllowed = true
  target : flags = 2 → d.allowVcdTarget = true
  source : sourceFits d flags srcLen srcPos
  window : s.wrTargetLen.toNat ≤ d.maxWindowSize.toNat
  file : d.decTargetTotal.toNat + s.wrTargetLen.toNat ≤ d.maxFileSize.toNat

/-- WH_PARSE reads the fields back, in wire order, and ends where the sections begin. -/
theorem parseWindowHeader_windowBytes (hout : OutputPasses s flags srcLen srcPos checksum)
    (hallows : ParseAllows d s flags srcLen srcPos)
    (h : d.inp.drop p = windowBytes s flags srcLen srcPos checksum ++ rest) :
    parseWindowHeader d p = .ok (writtenRegs s d flags srcLen srcPos checksum p) ∧
      d.inp.drop (sectionsAt s flags srcLen srcPos checksum p) = s.data ++ (s.insts ++ (s.addrs ++ rest)) := by
  obtain ⟨hflags, hsrc, hsum, hbody, htarget⟩ := hout
  have hlen := windowBody_length_eq s checksum
  have hdata : s.data.length ≤ maxField := by omega
  have hinsts : s.insts.length ≤ maxField := by omega
  have haddrs : s.addrs.length ≤ maxField := by omega
  rw [windowBytes_append] at h
  have atSource : d.inp.drop (p + 1) = _ := drop_add_length h
  have atBodyLen := drop_add_length atSource
  have atTarget := drop_add_vlen atBodyLen
  have atDelta := drop_add_vlen atTarget
  have atDataLen : d.inp.drop (_ + 1) = _ := drop_add_length atDelta
  have atInstLen := drop_add_vlen atDataLen
  have atAddrLen := drop_add_vlen atInstLen
  have atChecksum := drop_add_vlen atAddrLen
  have atSections := drop_add_length atChecksum
  have hq1 : sectionsAt s flags srcLen srcPos checksum p = p + 1 + (sourceFields flags srcLen srcPos).length
      + vlen (windowBody s checksum).length + vlen s.wrTargetLen.toNat + 1 + vlen s.data.length + vlen s.insts.length
      + vlen s.addrs.length + (checksumBytes s checksum).length := by
    simp only [sectionsAt, bodyFields, List.length_append, List.length_singleton, vlen]
    omega
  have htotal : sectionsAt s flags srcLen srcPos checksum p - (p + 1 + (sourceFields flags srcLen srcPos).length
      + vlen (windowBody s checksum).length) + s.data.length + s.insts.length + s.addrs.length
      = (windowBody s checksum).length := by
    rw [sectionsAt, Nat.add_sub_cancel_left]
    exact hlen.symm
  refine ⟨?_, hq1 ▸ atSections⟩
  simp only [parseWindowHeader, need_head h, checkIndicator_indicatorByte hflags hallows.checksum hallows.target,
    sourceSegment_sourceFields hflags s.wrChecksum hsrc hallows.source atSource, field32_venc hbody atBodyLen,
    field32_venc htarget atTarget, checkTargetSize, check_of hallows.window, check_of hallows.file, need_head atDelta,
    field32_venc hdata atDataLen, field32_venc hinsts atInstLen, field32_venc haddrs atAddrLen,
    checksumField_checksumBytes hflags hsum atChecksum, ok_bind, ← hq1, check_of htotal]
  rfl

theorem layoutBits_bit1 (a b : Bool) : (layoutBits a b).getLsbD 1 = b := by revert a b; decide

/-- The optional fields read as written, or as 0 where the window has none. -/
theorem writtenRegs_fields (hflags : flags < 3) :
    let w := writtenRegs s d flags srcLen srcPos checksum p
    w.indicator.toNat = flags + (if s.wrChecksum = true then 4 else 0) ∧ w.srcLen = (if flags = 0 then 0 else w64 srcLen) ∧
      w.srcPos = (if flags = 0 then 0 else w64 srcPos) ∧ w.checksum = (if s.wrChecksum = true then w64 checksum else 0) ∧
      w.hasChecksum = s.wrChecksum ∧ w.interleaved = (d.extAllowed && s.data.isEmpty && s.addrs.isEmpty) := by
  obtain ⟨hval, -, -, hbit2⟩ := indicatorByte_bits hflags s.wrChecksum
  refine ⟨?_, ?_, ?_, apply_ite w64 _ _ _, (layoutBits_bit1 _ _).trans hbit2, (layoutBits_bit0 _ _).trans ?_⟩
  · exact (w64_toNat_of_lt ((BitVec.isLt _).trans (by decide))).trans hval
  · simp only [writtenRegs, windowRegs, ne_eq, ite_not, apply_ite w64]
    rfl
  · simp only [writtenRegs, windowRegs, ne_eq, ite_not, apply_ite w64]
    rfl
  · cases s.data <;> cases s.addrs <;> rfl

/-- No position or length of a window that lies below 2^64 wraps around. -/
theorem writtenRegs_positions (d : State) (hfit : p + (windowBytes s flags srcLen srcPos checksum).length < 2 ^ 64) :
    let w := writtenRegs s d flags srcLen srcPos checksum p
    let q := sectionsAt s flags srcLen srcPos checksum p
    w.deltaLen.toNat = (windowBody s checksum).length ∧ w.dataLen.toNat = s.data.length ∧ w.instLen.toNat = s.insts.length ∧
      w.addrLen.toNat = s.addrs.length ∧ w.dataStart.toNat = q ∧ w.instStart.toNat = q + s.data.length ∧
      w.addrStart.toNat = q + s.data.length + s.insts.length ∧
      w.windowEnd.toNat = p + (windowBytes s flags srcLen srcPos checksum).length := by
  have hbody : (windowBody s checksum).length ≤ (windowBytes s flags srcLen srcPos checksum).length := by
    rw [windowBytes_eq, List.length_append]
    exact Nat.le_add_left _ _
  rw [add_windowBytes_length] at hfit ⊢
  have hsections := add_windowBytes_length s flags srcLen srcPos checksum p
  simp only [writtenRegs, windowRegs, w64_toNat]
  omega

/-- WH_PARSE takes the window WR_OUTPUT appended. -/
theorem exec_whParse_of_written (hout : OutputPasses s flags srcLen srcPos checksum) (hallows : ParseAllows d s flags srcLen srcPos)
    (hsession : d.sessionFailed = false) (hopen : d.decOpen = true) (hidle : d.winActive = false)
    (h : d.inp.drop d.a0 = windowBytes s flags srcLen srcPos checksum ++ rest) :
    ∃ u, exec .whParse d = .next u ∧ u.status = .ok ∧ u.winActive = true ∧ u.inp = d.inp ∧
      u.w = writtenRegs s d flags srcLen srcPos checksum d.a0 := by
  have hin : d.a0 ≤ d.inLen := Nat.le_of_add_right_le (add_length_le_of_drop h (Nat.succ_pos _))
  obtain ⟨hparse, -⟩ := parseWindowHeader_windowBytes hout hallows h
  rw [exec_eq, bodyOf, whParseBody, sessionGate, check_of hsession, ok_bind, check_of ⟨hopen, hidle⟩, ok_bind, check_of hin,
    ok_bind, hparse, ok_bind, finish_pure]
  exact ⟨_, rfl, rfl, rfl, rfl, rfl⟩

end windowFields

/-! What the writer commands leave in OUT when they end OK. -/

section written

variable {s t : State}

theorem header_of_fhWrite {header : List Byte} (h : exec .fhWrite s = .next t) (hok : t.status = .ok)
    (hout : t.out = s.out ++ header) :
    s.a0 ≤ 1 ∧ (s.a0 = 1 → s.a1 ≤ maxField - 2) ∧ header = fileHeaderBytes s (s.a0 == 1) s.a1 := by
  obtain ⟨u, hu, rfl⟩ := bodyOf_of_exec_ok h hok
  obtain ⟨_, hflags, _, hn, rfl⟩ := fhWriteBody_ok hu
  exact ⟨hflags, hn, (List.append_cancel_left hout).symm⟩

theorem window_of_wrOutput {win : List Byte} (hinv : InvWriter s) (h : exec .wrOutput s = .next t) (hok : t.status = .ok)
    (hcount : s.wrInstCount ≠ 0) (hout : t.out = s.out ++ win) :
    OutputPasses s s.a0 s.a1 s.a2 s.a3 ∧ win = windowBytes s s.a0 s.a1 s.a2 s.a3 := by
  obtain ⟨u, hu, rfl⟩ := bodyOf_of_exec_ok h hok
  obtain ⟨_, hflags, hsrc, hsum, ⟨hzero, _⟩ | ⟨_, hbody, rfl⟩⟩ := wrOutputBody_ok hu
  · exact absurd hzero hcount
  · exact ⟨⟨hflags, hsrc, hsum, hbody, hinv.target⟩, (List.append_cancel_left hout).symm⟩

end written

/-- Settles O48: the bytes by what the writer commands leave in OUT, the parses by `exec_fhParse_of_written` and
`exec_whParse_of_written`; no W_ register wraps, since the window lies in IN. -/
theorem headerRoundTrips : Obligations.HeaderRoundTrips := by
  refine ⟨fun s t d header rest hinv hexec hok hout hsession hclosed _ h => ?_,
    fun s t d win rest hinv hexec hok hcount hout hsession hopen hidle hlen h hext htarget hdict htotal hwindow hfile => ?_⟩
  · obtain ⟨hflags, hn, rfl⟩ := header_of_fhWrite hexec hok hout
    exact exec_fhParse_of_written hinv.table hflags hn hsession hclosed h
  · obtain ⟨hpasses, rfl⟩ := window_of_wrOutput hinv.writer hexec hok hcount hout
    have hallows : ParseAllows d s s.a0 s.a1 s.a2 := ⟨hext, htarget, ⟨hdict, htotal⟩, hwindow, hfile⟩
    obtain ⟨u, hu, hstatus, hactive, hinp, hw⟩ := exec_whParse_of_written hpasses hallows hsession hopen hidle h
    have hfit : d.a0 + (windowBytes s s.a0 s.a1 s.a2 s.a3).length < 2 ^ 64 :=
      (add_length_le_of_drop h (Nat.succ_pos _)).trans_lt (lt_trans hlen (by decide))
    obtain ⟨hdelta, hdata, hinsts, haddrs, hdataStart, hinstStart, haddrStart, hend⟩ := writtenRegs_positions d hfit
    obtain ⟨hind, hsrcLen, hsrcPos, hsum, hbit1, hbit0⟩ := writtenRegs_fields (s := s) (d := d) (srcLen := s.a1) (srcPos := s.a2)
      (checksum := s.a3) (p := d.a0) hpasses.flagsOk
    obtain ⟨-, atData⟩ := parseWindowHeader_windowBytes hpasses hallows h
    have atInsts := drop_add_length atData
    have atAddrs := drop_add_length atInsts
    refine ⟨u, hu, hstatus, hactive, ?_⟩
    rw [hw, hinp, hdelta, hdata, hinsts, haddrs, hdataStart, hinstStart, haddrStart, hend, hind, hsrcLen, hsrcPos, hsum, hbit1,
      hbit0, atData, atInsts, atAddrs, windowBody_length, State.a1, w64_of_toNat, State.a2, w64_of_toNat]
    exact ⟨rfl, rfl, rfl, rfl, w64_of_toNat _, rfl, rfl, rfl, rfl, by rw [State.a3, w64_of_toNat], rfl, rfl, rfl, List.take_left,
      List.take_left, List.take_left⟩

/-! What the writer leaves in INSTS, opcode by opcode (R702, `30_encoding.md` R343, R344). -/

/-- The instruction's mode as the writer looks it up (R501). -/
def WriterOp.mode : WriterOp → Nat
  | .add _ _ => 0
  | .run _ _ => 0
  | .copy _ mode _ => mode.toNat

/-- What RD_GET and RD_SEEK meet of an instruction: its record and the length of its payload. -/
def WriterOp.item (s : State) (a : WriterOp) : InstRecord × Nat := (a.record, (a.payload s).length)

/-- An instruction's bytes behind its opcode, for the half that holds it: the size, and in the interleaved layout the payload. -/
def WriterOp.tail (s : State) (h : Half) (a : WriterOp) : List Byte :=
  sizeBytes h a.record.size.toNat ++ if s.wrInterleaved then a.payload s else []

/-- The half returns this record, with the table's size or the varint's (R506, R525). -/
structure Half.Holds (h : Half) (r : InstRecord) : Prop where
  typ : h.typ = r.typ
  noNoop : h.typ ≠ typNoop
  mode : h.mode = r.mode
  size : h.size.toNat = r.size.toNat ∨ h.size = 0
  fits : r.size.toNat ≤ maxField

/-- An opcode in INSTS with the instructions it stands for: one, or two once it is paired (R702). -/
inductive OpcodeGroup where
  | single (op : Byte) (a : WriterOp)
  | dual (op : Byte) (a b : WriterOp)

/-- Its instructions. -/
def OpcodeGroup.ops : OpcodeGroup → List WriterOp
  | .single _ a => [a]
  | .dual _ a b => [a, b]

/-- Its bytes. -/
def OpcodeGroup.bytes (s : State) : OpcodeGroup → List Byte
  | .single op a => op :: a.tail s (firstHalf s.ct op.toNat)
  | .dual op a b => op :: (a.tail s (firstHalf s.ct op.toNat) ++ b.tail s (secondHalf s.ct op.toNat))

/-- The opcode's row holds its instructions and nothing else. -/
def OpcodeGroup.Fits (ct : List Host.Cell) : OpcodeGroup → Prop
  | .single op a => (firstHalf ct op.toNat).Holds a.record ∧ (secondHalf ct op.toNat).typ = typNoop
  | .dual op a b => (firstHalf ct op.toNat).Holds a.record ∧ (secondHalf ct op.toNat).Holds b.record

/-! The reader over those bytes (`42_reader.md` R604, R607). -/

/-- The reader gets past its refusals and stands before these unread bytes, with this opcode pending. -/
structure State.Before (d : State) (ct : List Host.Cell) (stop : Word) (pend : Option Byte) (bytes : List Byte) : Prop where
  scans : d.Scans
  table : d.ct = ct
  stop : d.rdEnd = stop
  pending : d.pendingOp = pend
  pos : d.rdPos.toNat ≤ d.rdEnd.toNat
  limit : d.rdEnd.toNat ≤ d.inLen
  unread : d.unread = bytes

section reading

variable {s d : State} {ct : List Host.Cell} {stop : Word} {pend pend' : Option Byte} {xs ys pre rest : List Byte} {h : Half}
  {a : WriterOp} {p size : Nat}

theorem before_length_le (hd : d.Before ct stop pend (xs ++ ys)) : d.rdPos.toNat + xs.length ≤ d.rdEnd.toNat := by
  have hlen := unread_length d
  have hpos := hd.pos
  rw [hd.unread, List.length_append] at hlen
  omega

/-- Past the bytes `xs`, whatever the command put into the ports and LAST_INST. -/
theorem before_advance (hd : d.Before ct stop pend (xs ++ ys)) (pend' : Option Byte) (arg res : Quad) (st : Status)
    (last : Option InstRecord) :
    State.Before { d with
      rdPos := w64 (d.rdPos.toNat + xs.length), pendingOp := pend', arg := arg, res := res, status := st, lastInst := last }
      ct stop pend' ys := by
  have hle := before_length_le hd
  obtain ⟨⟨hsession, hactive, hvalid, hpushback⟩, htable, hstop, -, -, hlimit, hunread⟩ := hd
  have hw : (w64 (d.rdPos.toNat + xs.length)).toNat = d.rdPos.toNat + xs.length := w64_toNat_of_lt (hle.trans_lt d.rdEnd.isLt)
  refine ⟨⟨hsession, hactive, hvalid, hpushback⟩, htable, hstop, rfl, hw.trans_le hle, hlimit, ?_⟩
  rw [State.unread, hw]
  exact drop_add_length hunread

/-- The size of a half whose size bytes stand at `p`: the table's, or the varint there (R604, step 3). -/
theorem sizedReturn_of_sizeBytes (hsize : h.size.toNat = size ∨ h.size = 0) (hle : size ≤ maxField)
    (hbytes : (d.inp.take d.rdEnd.toNat).drop p = sizeBytes h size ++ rest) :
    sizedReturn d h pend p = returned d h pend size (p + (sizeBytes h size).length) := by
  by_cases hz : h.size = 0
  · rw [sizeBytes, if_pos hz] at hbytes ⊢
    have hdec := vdec32_venc (hle.trans (by decide)) hbytes
    have hend : p + vlen size ≤ d.rdEnd.toNat :=
      (add_length_le_of_drop hbytes (vlen_pos size)).trans (List.length_take_le _ _)
    have hin := vdecLoop_ok_extend (d.inp.drop d.rdEnd.toNat) hdec hend
    rw [List.take_append_drop] at hin
    exact sizedReturn_of_varint hz hin hle
  · rw [sizedReturn_of_size_ne_zero hz, hsize.resolve_right hz, sizeBytes, if_neg hz]
    rfl

/-- RD_GET that finds a half behind the bytes `pre` returns the record it holds. -/
theorem exec_rdGet_half {r : InstRecord} (hh : h.Holds r) (hd : d.Before ct stop pend (pre ++ (sizeBytes h r.size.toNat ++ rest)))
    (hfound : nextHalf ct pend (pre ++ (sizeBytes h r.size.toNat ++ rest)) d.rdPos.toNat =
      .found h pend' (d.rdPos.toNat + pre.length)) :
    ∃ u, exec .rdGet d = .next u ∧ u.status = .ok ∧
      u.res = { r0 := w64 r.typ.toNat, r1 := r.size, r2 := w64 r.mode.toNat, r3 := u.rdPos } ∧ u.Before ct stop pend' rest := by
  obtain ⟨htyp, -, hmode, hsize, hfits⟩ := hh
  have hget : exec .rdGet d =
      .next (returned d h pend' r.size.toNat (d.rdPos.toNat + (pre ++ sizeBytes h r.size.toNat).length)) := by
    rw [exec_rdGet_scan hd.scans, hd.table, hd.pending, hd.unread, hfound, State.afterScan,
      sizedReturn_of_sizeBytes hsize hfits (drop_add_length hd.unread), List.length_append, Nat.add_assoc]
  rw [← List.append_assoc] at hd
  exact ⟨_, hget, rfl, by rw [returned, htyp, hmode, w64_of_toNat], before_advance hd pend' _ _ _ _⟩

theorem exec_rdSeek_of_range (hsession : d.sessionFailed = false) (hactive : d.readerActive = true) (hpos : d.rdPos.toNat ≤ d.a0)
    (hend : d.a0 ≤ d.rdEnd.toNat) : exec .rdSeek d = .next { d with rdPos := d.arg.r0, status := .ok } := by
  rw [rdSeekEffect, if_neg (by simp [hsession]), if_neg (by simp [hactive]), if_neg (not_not.2 ⟨hpos, hend⟩)]

/-- RD_SEEK over the bytes `xs`. -/
theorem exec_rdSeek_over (hd : d.Before ct stop pend (xs ++ ys)) :
    ∃ v, exec .rdSeek { d with arg := { d.arg with r0 := w64 (d.rdPos.toNat + xs.length) } } = .next v ∧ v.status = .ok ∧
      v.Before ct stop pend ys := by
  obtain rfl := hd.pending
  have hv := before_advance hd d.pendingOp { d.arg with r0 := w64 (d.rdPos.toNat + xs.length) } d.res .ok d.lastInst
  have hle : d.rdPos.toNat + xs.length ≤ d.rdEnd.toNat := before_length_le hd
  have hw : (w64 (d.rdPos.toNat + xs.length)).toNat = d.rdPos.toNat + xs.length := w64_toNat_of_lt (hle.trans_lt d.rdEnd.isLt)
  exact ⟨_, exec_rdSeek_of_range hd.scans.session hd.scans.active ((Nat.le_add_right _ _).trans_eq hw.symm) (hw.trans_le hle), rfl,
    hv⟩

/-- The scan stops at an opcode whose first half is not NOOP. -/
theorem nextHalf_of_first {op : Byte} (hfirst : (firstHalf ct op.toNat).typ ≠ typNoop) (hpend : pendingAfter ct op = pend)
    (bytes : List Byte) (p : Nat) : nextHalf ct none ([op] ++ bytes) p = .found (firstHalf ct op.toNat) pend (p + 1) := by
  rw [List.singleton_append, nextHalf_op fun hbare => hfirst hbare.1, returnedHalf, if_neg hfirst, hpend]

/-- The reader takes one instruction: RD_GET returns its record, and in the interleaved layout RD_SEEK passes its payload. -/
theorem reads_half (hh : h.Holds a.record) (hd : d.Before ct stop pend (pre ++ (a.tail s h ++ rest)))
    (hfound : nextHalf ct pend (pre ++ (a.tail s h ++ rest)) d.rdPos.toNat = .found h pend' (d.rdPos.toNat + pre.length)) :
    ∃ v, v.Before ct stop pend' rest ∧
      ∀ items e, Reads s.wrInterleaved items v e → Reads s.wrInterleaved (a.item s :: items) d e := by
  rw [WriterOp.tail, List.append_assoc] at hd hfound
  obtain ⟨u, hget, hok, hres, hu⟩ := exec_rdGet_half hh hd hfound
  cases hi : s.wrInterleaved with
  | false =>
    rw [hi] at hu
    exact ⟨u, hu, fun items e he => ⟨u, hget, hok, hres, he⟩⟩
  | true =>
    rw [hi] at hu
    obtain ⟨v, hseek, hok', hv⟩ := exec_rdSeek_over hu
    exact ⟨v, hv, fun items e he => ⟨u, hget, hok, hres, v, hseek, hok', he⟩⟩

/-- The reader takes the instructions of one opcode. -/
theorem reads_group {g : OpcodeGroup} (hg : g.Fits s.ct) (hd : d.Before s.ct stop none (g.bytes s ++ rest)) :
    ∃ v, v.Before s.ct stop none rest ∧
      ∀ items e, Reads s.wrInterleaved items v e → Reads s.wrInterleaved (g.ops.map (·.item s) ++ items) d e := by
  cases g with
  | single op a =>
    obtain ⟨hfirst, hsecond⟩ := hg
    exact reads_half (pre := [op]) hfirst hd (nextHalf_of_first hfirst.noNoop (if_neg fun hdual => hdual.2 hsecond) _ _)
  | dual op a b =>
    obtain ⟨hfirst, hsecond⟩ := hg
    rw [OpcodeGroup.bytes, List.cons_append, List.append_assoc] at hd
    obtain ⟨u, hu, hreads⟩ := reads_half (pre := [op]) hfirst hd
      (nextHalf_of_first hfirst.noNoop (if_pos ⟨hfirst.noNoop, hsecond.noNoop⟩) _ _)
    obtain ⟨v, hv, hreads'⟩ := reads_half (pre := []) hsecond hu (nextHalf_pending _ _ _ _)
    exact ⟨v, hv, fun items e he => hreads _ e (hreads' items e he)⟩

/-- The reader takes the instructions of all opcodes, one by one. -/
theorem reads_groups {gs : List OpcodeGroup} (hgs : ∀ g ∈ gs, g.Fits s.ct)
    (hd : d.Before s.ct stop none (gs.flatMap (·.bytes s))) :
    ∃ e, e.Before s.ct stop none [] ∧ Reads s.wrInterleaved ((gs.flatMap (·.ops)).map (·.item s)) d e := by
  induction gs generalizing d with
  | nil => exact ⟨d, hd, rfl⟩
  | cons g gs ih =>
    obtain ⟨hg, hgs⟩ := List.forall_mem_cons.1 hgs
    rw [List.flatMap_cons] at hd
    obtain ⟨v, hv, hreads⟩ := reads_group hg hd
    obtain ⟨e, he, hrest⟩ := ih hgs hv
    refine ⟨e, he, ?_⟩
    rw [List.flatMap_cons, List.map_append]
    exact hreads _ e hrest

/-- At the end of its bytes the reader stands at RD_END, and RD_GET is TRUNCATED (R604). -/
theorem exec_rdGet_end (hd : d.Before ct stop none []) :
    d.rdPos = stop ∧ exec .rdGet d = .next { d with status := .truncated } := by
  have hlen := unread_length d
  rw [hd.unread, List.length_nil, Nat.min_eq_left hd.limit] at hlen
  refine ⟨(BitVec.eq_of_toNat_eq (le_antisymm hd.pos (Nat.sub_eq_zero_iff_le.1 hlen.symm))).trans hd.stop, ?_⟩
  have hscan : nextHalf d.ct d.pendingOp d.unread d.rdPos.toNat = .exhausted d.rdPos.toNat := by
    rw [hd.pending, hd.unread, nextHalf_nil]
  rw [exec_rdGet_scan hd.scans, hscan, State.afterScan, w64_of_toNat]

end reading

/-! The writer, one command at a time (R700 to R705). -/

/-- INSTS holds these instructions, opcode by opcode; WR_LAST is none, or the place of the last opcode, which then stands alone
(R702, `10_state.md` R112). -/
def Grouped (s : State) (done : List WriterOp) (insts : List Byte) (last : Option Nat) : Prop :=
  ∃ gs : List OpcodeGroup, (∀ g ∈ gs, g.Fits s.ct) ∧ gs.flatMap (·.ops) = done ∧ insts = gs.flatMap (·.bytes s) ∧
    ∀ pos, last = some pos → ∃ front op a, gs = front ++ [.single op a] ∧ pos = (front.flatMap (·.bytes s)).length

/-- The payloads that go to a section of their own in the standard layout (R701). -/
def sectionBytes (s : State) (data : Bool) (done : List WriterOp) : List Byte :=
  if s.wrInterleaved then [] else (done.filter (·.isData == data)).flatMap (·.payload s)

/-- `u` is the writer `s` after these instructions. -/
structure Wrote (s : State) (done : List WriterOp) (u : State) : Prop where
  table : InvTable u
  ct : u.ct = s.ct
  inp : u.inp = s.inp
  nearSize : u.nearSize = s.nearSize
  layout : u.wrInterleaved = s.wrInterleaved
  insts : Grouped s done u.insts u.wrLast
  data : u.data = sectionBytes s true done
  addrs : u.addrs = sectionBytes s false done

/-- Where the writer puts the payload (R703 to R705). -/
def WriterOp.dest (s : State) (a : WriterOp) : Payload := if a.isData then .toData (a.payload s) else .toAddrs (a.payload s)

theorem flatMap_snoc {α β : Type} (l : List α) (x : α) (f : α → List β) : (l ++ [x]).flatMap f = l.flatMap f ++ f x := by
  rw [List.flatMap_append, List.flatMap_singleton]

section writing

variable {s t u v : State} {a : WriterOp} {done ops : List WriterOp} {h : Half} {e : Emitted}

@[simp] theorem dest_bytes (s : State) (a : WriterOp) : (a.dest s).bytes = a.payload s := by
  unfold WriterOp.dest
  cases a.isData <;> rfl

@[simp] theorem dest_isData (s : State) (a : WriterOp) : (a.dest s).isData = a.isData := by
  unfold WriterOp.dest
  cases a.isData <;> rfl

theorem record_mode (a : WriterOp) : a.record.mode = BitVec.ofNat 8 a.mode := by cases a <;> rfl

theorem payload_congr (hinp : u.inp = s.inp) (hnear : u.nearSize = s.nearSize) (a : WriterOp) : a.payload u = a.payload s := by
  cases a <;> simp only [WriterOp.payload, hinp, hnear]

/-- The command of an instruction, when it ends OK, is the shared commit with its record and payload. -/
theorem addInstruction_of_exec (hexec : exec a.instr { u with arg := a.args } = .next v) (hok : v.status = .ok) :
    u.tableValid = true ∧ emittable a.record.typ a.mode ∧
      ∃ w, addInstruction { u with arg := a.args } a.record.typ a.record.size.toNat a.mode (a.dest u) = .ok w ∧
        v = { w with status := .ok } := by
  obtain ⟨w, hw, rfl⟩ := bodyOf_of_exec_ok hexec hok
  cases a with
  | add pos count =>
    obtain ⟨⟨_, hvalid⟩, _, hadd⟩ := wrAddBody_ok hw
    exact ⟨hvalid, .inl ⟨rfl, rfl⟩, w, hadd, rfl⟩
  | run byte size =>
    obtain ⟨⟨_, hvalid⟩, _, _, hadd⟩ := wrRunBody_ok hw
    exact ⟨hvalid, .inr (.inl ⟨rfl, rfl⟩), w, hadd, rfl⟩
  | copy size mode addr =>
    obtain ⟨⟨_, hvalid⟩, _, _, _, hadd⟩ := wrCopyBody_ok hw
    exact ⟨hvalid, .inr (.inr rfl), w, hadd, rfl⟩

/-- A half with the instruction's type and mode, and its size or 0, returns its record. -/
theorem holds_of_row (hk : emittable a.record.typ a.mode) (htyp : h.typ = a.record.typ) (hmode : h.mode.toNat = a.mode)
    (hsize : h.size.toNat = a.record.size.toNat ∨ h.size = 0) (hfits : a.record.size.toNat ≤ maxField) : h.Holds a.record where
  typ := htyp
  noNoop := by
    rw [htyp]
    obtain ⟨htyp, _⟩ | ⟨htyp, _⟩ | htyp := hk <;> rw [htyp] <;> decide
  mode := by rw [record_mode, ← hmode, BitVec.ofNat_toNat, BitVec.setWidth_eq]
  size := hsize
  fits := hfits

/-- An opcode that stands alone, behind the others. -/
theorem grouped_single {insts : List Byte} {last : Option Nat} {op : Byte} (hg : Grouped s done insts last)
    (hfirst : (firstHalf s.ct op.toNat).Holds a.record) (hsecond : (secondHalf s.ct op.toNat).typ = typNoop) :
    Grouped s (done ++ [a]) (insts ++ op :: a.tail s (firstHalf s.ct op.toNat)) (some insts.length) := by
  obtain ⟨gs, hgs, rfl, rfl, -⟩ := hg
  refine ⟨gs ++ [OpcodeGroup.single op a], List.forall_mem_append.2 ⟨hgs, ?_⟩, flatMap_snoc ..,
    (flatMap_snoc gs (.single op a) (·.bytes s)).symm, ?_⟩
  · exact List.forall_mem_singleton.2 ⟨hfirst, hsecond⟩
  · rintro pos ⟨⟩
    exact ⟨gs, op, a, rfl, rfl⟩

/-- The last opcode rewritten to a dual one with the same first half. -/
theorem grouped_dual {insts : List Byte} {pos : Nat} {f c : Byte} (hg : Grouped s done insts (some pos)) (hf : insts[pos]? = some f)
    (hfirst : firstHalf s.ct c.toNat = firstHalf s.ct f.toNat) (hsecond : (secondHalf s.ct c.toNat).Holds a.record) :
    Grouped s (done ++ [a]) (insts.set pos c ++ a.tail s (secondHalf s.ct c.toNat)) none := by
  obtain ⟨gs, hgs, rfl, rfl, hlast⟩ := hg
  obtain ⟨front, op, b, rfl, rfl⟩ := hlast pos rfl
  obtain ⟨hfront, hb⟩ := List.forall_mem_append.1 hgs
  obtain ⟨hholds, -⟩ := List.forall_mem_singleton.1 hb
  rw [flatMap_snoc front (.single op b) (·.bytes s), OpcodeGroup.bytes] at hf ⊢
  obtain rfl : op = f := by simpa using hf
  refine ⟨front ++ [OpcodeGroup.dual c b a], List.forall_mem_append.2 ⟨hfront, ?_⟩, ?_, ?_, nofun⟩
  · exact List.forall_mem_singleton.2 ⟨hfirst ▸ hholds, hsecond⟩
  · rw [flatMap_snoc, flatMap_snoc, List.append_assoc]
    rfl
  · rw [flatMap_snoc, OpcodeGroup.bytes, hfirst, List.set_append_right _ _ le_rfl, Nat.sub_self, List.set_cons_zero,
      List.append_assoc, List.cons_append]

/-- `emit`, with the payload behind it in the interleaved layout, adds an opcode or pairs the last one. -/
theorem grouped_emit (htable : InvTable u) (hvalid : u.tableValid = true) (hct : u.ct = s.ct)
    (hk : emittable a.record.typ a.mode) (hfits : a.record.size.toNat ≤ maxField) (hg : Grouped s done u.insts u.wrLast)
    (he : emit u a.record.typ a.record.size.toNat a.mode = .ok e) :
    Grouped s (done ++ [a]) (e.insts ++ if s.wrInterleaved then a.payload s else []) e.last := by
  have hval := htable.valid hvalid
  have hfst := htable.first hvalid
  have hsnd := htable.second hvalid
  rw [hfst, hct] at hsnd
  rw [hct] at hval hfst
  obtain ⟨pos, f, c, hpos, hf, hc, rfl⟩ | ⟨o, ho, rfl⟩ := emit_ok he
  · rw [hsnd] at hc
    obtain ⟨hfirst, -, -, htyp, hmode, hsize⟩ := secondLookup_row hval hk hc
    rw [hpos] at hg
    have hpair := grouped_dual hg hf hfirst (holds_of_row hk htyp hmode hsize hfits)
    rwa [WriterOp.tail, ← List.append_assoc, ← hct] at hpair
  · rw [hfst] at ho
    obtain ⟨htyp, hmode, hnoop, hsize⟩ := firstLookup_row hval hk ho
    have halone := grouped_single hg (holds_of_row hk htyp hmode hsize hfits) hnoop
    rw [WriterOp.tail, ← hct] at halone
    simpa only [List.append_assoc, List.nil_append, List.cons_append] using halone

/-- What the shared commit leaves in the regions and in WR_LAST (R700 to R702). -/
theorem addInstruction_regions {typ : Byte} {size mode : Nat} {p : Payload} (hadd : addInstruction s typ size mode p = .ok t) :
    ∃ e, emit s typ size mode = .ok e ∧ t.wrLast = e.last ∧ t.insts = e.insts ++ (if s.wrInterleaved then p.bytes else []) ∧
      t.data = (if s.wrInterleaved = false ∧ p.isData = true then s.data ++ p.bytes else s.data) ∧
      t.addrs = (if s.wrInterleaved = false ∧ p.isData = false then s.addrs ++ p.bytes else s.addrs) := by
  obtain ⟨_, e, he, rfl, _⟩ := addInstruction_ok hadd
  rw [appendPayload_regions]
  have hinsts : (if s.wrInterleaved then e.insts ++ p.bytes else e.insts) = e.insts ++ if s.wrInterleaved then p.bytes else [] := by
    cases s.wrInterleaved
    · exact (List.append_nil _).symm
    · rfl
  exact ⟨e, he, rfl, hinsts, rfl, rfl⟩

theorem sectionBytes_append (s : State) (data : Bool) (done : List WriterOp) (a : WriterOp) :
    sectionBytes s data (done ++ [a]) =
      if s.wrInterleaved = false ∧ a.isData = data then sectionBytes s data done ++ a.payload s else sectionBytes s data done := by
  unfold sectionBytes
  cases s.wrInterleaved
  · by_cases hd : a.isData = data <;> simp [List.filter_append, hd]
  · simp

/-- One command more. -/
theorem wrote_step (hu : Wrote s done u) (hexec : exec a.instr { u with arg := a.args } = .next v) (hok : v.status = .ok) :
    Wrote s (done ++ [a]) v := by
  obtain ⟨htable, hct, hinp, hnear, hlayout, hinsts, hdata, haddrs⟩ := hu
  have htable' : InvTable v :=
    invTable_exec (s := { u with arg := a.args }) ⟨htable.canonical, htable.caches, htable.valid, htable.first, htable.second⟩ hexec
  obtain ⟨hvalid, hk, w, hadd, rfl⟩ := addInstruction_of_exec hexec hok
  obtain ⟨hfit, -⟩ := addInstruction_ok hadd
  obtain ⟨e, he, hlast, hinsts', hdata', haddrs'⟩ := addInstruction_regions hadd
  have hframe := addInstruction_frame hadd
  have hlayout' : State.wrInterleaved { u with arg := a.args } = s.wrInterleaved := hlayout
  rw [hlayout', dest_bytes, payload_congr hinp hnear] at hinsts' hdata' haddrs'
  rw [dest_isData] at hdata' haddrs'
  refine ⟨htable', (congrArg State.ct hframe).trans hct, (congrArg State.inp hframe).trans hinp,
    (congrArg State.nearSize hframe).trans hnear, (congrArg State.wrInterleaved hframe).trans hlayout, ?_, ?_, ?_⟩
  · rw [hinsts', hlast]
    exact grouped_emit htable hvalid hct hk (Nat.le_of_add_left_le hfit) hinsts he
  · rw [sectionBytes_append, ← hdata]
    exact hdata'
  · rw [sectionBytes_append, ← haddrs]
    exact haddrs'

/-- A sequence of commands, by induction over it. -/
theorem wrote_of_writes (hu : Wrote s done u) (hw : Writes ops u t) : Wrote s (done ++ ops) t := by
  induction ops generalizing done u with
  | nil =>
    obtain rfl := hw
    rwa [List.append_nil]
  | cons a ops ih =>
    obtain ⟨v, hexec, hok, hrest⟩ := hw
    rw [List.append_cons]
    exact ih (wrote_step hu hexec hok) hrest

/-- An empty writer. -/
theorem wrote_nil (hinv : Inv s) (hcount : s.wrInstCount = 0) : Wrote s [] s := by
  obtain ⟨hdata, hinsts, haddrs, hlast, _⟩ := hinv.writer.empty hcount
  refine ⟨hinv.table, rfl, rfl, rfl, rfl, ⟨[], by simp, rfl, hinsts, by simp [hlast]⟩, ?_, ?_⟩
  · simp [sectionBytes, hdata]
  · simp [sectionBytes, haddrs]

end writing

/-- Settles O44: the writer leaves INSTS grouped by opcode (`wrote_of_writes`, over the sequence), and the reader takes such bytes
opcode by opcode (`reads_groups`, over the opcodes). -/
theorem writerReaderRoundTrip : Obligations.WriterReaderRoundTrip := by
  intro ops s t d hinv hcount hwrites hct hvalid hactive hsession hpushback hpending hpos hlimit hunread
  obtain ⟨-, -, -, -, -, ⟨gs, hgs, rfl, hinsts, -⟩, hdata, haddrs⟩ := wrote_of_writes (wrote_nil hinv hcount) hwrites
  obtain ⟨e, he, hreads⟩ := reads_groups hgs
    (⟨⟨hsession, hactive, hvalid, hpushback⟩, hct, rfl, hpending, hpos, hlimit, hunread.trans hinsts⟩ : d.Before s.ct d.rdEnd none _)
  obtain ⟨hend, hget⟩ := exec_rdGet_end he
  refine ⟨⟨e, hreads, hend, he.pending, he.scans.pushback, hget⟩, fun hi => ⟨?_, ?_⟩, fun hi => ⟨?_, ?_⟩⟩
  · simp only [hdata, sectionBytes, hi, beq_true]
    rfl
  · simp only [haddrs, sectionBytes, hi, beq_false]
    rfl
  · rw [hdata, sectionBytes, hi]
    rfl
  · rw [haddrs, sectionBytes, hi]
    rfl

end Sys2Proof.Machine

/-! The statements of the family `44_window_parser.md`: the header parsers (O45, O46) and the end of a window (O47). -/

namespace Sys2Proof.Machine

section checks

variable {α : Type} (s : State)

/-- A body that begins with a check of IN's content, with the check told by what it refuses (R800). -/
theorem finish_check_refuse_stream {p q : Prop} [Decidable p] [Decidable q] (h : p ↔ ¬q) (st : Status)
    (g : Unit → Except Failure State) :
    finish s (check p (.stream st) >>= g) = if q then failedStream s st else finish s (g ()) := by
  simp only [finish_check, h, ite_not]
  rfl

/-- An optional part of a header, before the rest of the body. -/
theorem finish_ite_bind {c : Prop} [Decidable c] (x y : Except Failure α) (g : α → Except Failure State) :
    finish s ((if c then x else y) >>= g) = if c then finish s (x >>= g) else finish s (y >>= g) :=
  apply_ite (fun r => finish s (r >>= g)) c x y

end checks

/-! The parts of the file header (R801). -/

section fileHeader

variable {α : Type} (s : State)

theorem finish_expectByte (p : Nat) (e : Byte) (g : Unit → Except Failure State) :
    finish s (expectByte s p e >>= g) = onByte s p fun b => if b ≠ e then failedStream s .malformed else finish s (g ()) := by
  simp only [expectByte, bind_assoc, finish_need, finish_check_refuse_stream s not_not.symm]

/-- The last two bits of Hdr_Indicator: with the others 0, what bit 0 and bit 1 say of the byte's value. -/
theorem getLsbD_of_lt_four : ∀ hi : Byte, ¬hi.toNat ≥ 4 →
    (hi.getLsbD 0 = false ↔ ¬hi.toNat % 2 = 1) ∧ (¬hi.toNat % 2 = 1 → (hi.getLsbD 1 = true ↔ ¬hi.toNat = 0)) := by
  decide

/-- Hdr_Indicator: the reserved bits before VCD_DECOMPRESS, and the custom table's fields unless the byte is 0. -/
theorem finish_hdrIndicator (hi : Byte) (custom standard : Except Failure α) (g : α → Except Failure State) :
    finish s (check (hi.toNat / 4 = 0) (.stream .malformed) >>= fun _ =>
        check (hi.getLsbD 0 = false) (.stream .unsupported) >>= fun _ =>
        (if hi.getLsbD 1 = true then custom else standard) >>= g) =
      if hi.toNat ≥ 4 then failedStream s .malformed
      else if hi.toNat % 2 = 1 then failedStream s .unsupported
      else if hi.toNat = 0 then finish s (standard >>= g)
      else finish s (custom >>= g) := by
  rw [finish_check_refuse_stream s (q := hi.toNat ≥ 4) (by omega)]
  refine ite_congr rfl (fun _ => rfl) fun hrange => ?_
  obtain ⟨hbit0, hbit1⟩ := getLsbD_of_lt_four hi hrange
  rw [finish_check_refuse_stream s hbit0]
  refine ite_congr rfl (fun _ => rfl) fun hplain => ?_
  simp only [finish_ite_bind, hbit1 hplain, ite_not]

theorem finish_customFields (p : Nat) (g : Nat × Nat × Nat → Except Failure State) :
    finish s (customFields s p >>= g) =
      onField s p fun len q => if len < 2 then failedStream s .malformed else
      onByte s q fun near =>
      onByte s (q + 1) fun same =>
        if near.toNat + same.toNat > 254 then failedStream s .malformed
        else finish s (g (q + 2, len - 2, near.toNat + 256 * same.toNat)) := by
  simp only [customFields, bind_assoc, finish_field32, finish_need, finish_check_refuse_stream s not_lt.symm, pure_eq_ok, ok_bind,
    cacheLimit_eq]

end fileHeader

/-- Settles O45: the preconditions in order, then the header's fields in wire order. -/
theorem fhParseEffect : Obligations.FhParseEffect := by
  intro s
  rw [exec_eq, bodyOf, fhParseBody, finish_sessionGate, finish_check_refuse (q := s.decOpen = true) (by simp),
    finish_check_refuse (q := s.a0 > s.inLen) not_lt.symm]
  simp only [parseFileHeader, bind_assoc, finish_expectByte, finish_need, finish_check_refuse_stream s (p := _ ∨ _) not_not.symm,
    finish_hdrIndicator, finish_customFields]
  rfl

/-! The parts of the window header (R811 to R817). -/

section windowHeader

variable (s : State)

/-- The checks of Win_Indicator in order (R811). -/
theorem finish_checkIndicator (wi : Byte) (g : Unit → Except Failure State) :
    finish s (checkIndicator s wi >>= g) =
      if wi.toNat / 8 ≠ 0 then failedStream s .malformed
      else if wi.getLsbD 0 = true ∧ wi.getLsbD 1 = true then failedStream s .malformed
      else if wi.getLsbD 2 = true ∧ s.extAllowed = false then failedStream s .malformed
      else if wi.getLsbD 1 = true ∧ s.allowVcdTarget = false then failedStream s .unsupported
      else finish s (g ()) := by
  simp only [checkIndicator, bind_assoc]
  rw [finish_check_refuse_stream s (q := wi.toNat / 8 ≠ 0) not_not.symm, finish_check_refuse_stream s Iff.rfl,
    finish_check_refuse_stream s (q := wi.getLsbD 2 = true ∧ s.extAllowed = false) (by simp),
    finish_check_refuse_stream s (q := wi.getLsbD 1 = true ∧ s.allowVcdTarget = false) (by simp)]

/-- The source segment's fields and their checks, or none (R812). -/
theorem finish_sourceSegment (wi : Byte) (p : Nat) (g : Nat × Nat × Nat → Except Failure State) :
    finish s (sourceSegment s wi p >>= g) =
      if wi.getLsbD 0 = true ∨ wi.getLsbD 1 = true then
        onField s p fun sl p =>
        onField s p fun sp p =>
          if sl + sp > maxField then failedStream s .malformed
          else if sl + sp > (if wi.getLsbD 0 = true then s.dictSize.toNat else s.decTargetTotal.toNat) then
            failedStream s .outOfRange
          else finish s (g (sl, sp, p))
      else finish s (g (0, 0, p)) := by
  simp only [sourceSegment, finish_ite_bind, Bool.or_eq_true, bind_assoc, finish_field32, finish_check_refuse_stream s not_lt.symm,
    pure_eq_ok, ok_bind]

/-- The two target-size limits in order (R813). -/
theorem finish_checkTargetSize (tws : Nat) (g : Unit → Except Failure State) :
    finish s (checkTargetSize s tws >>= g) =
      if tws > s.maxWindowSize.toNat then failedStream s .outOfRange
      else if s.decTargetTotal.toNat + tws > s.maxFileSize.toNat then failedStream s .outOfRange
      else finish s (g ()) := by
  simp only [checkTargetSize, bind_assoc, finish_check_refuse_stream s not_lt.symm]

/-- The checks of Delta_Indicator: the reserved bits before the compression bits (R814). -/
theorem finish_checkDeltaIndicator (di : Byte) (g : Unit → Except Failure State) :
    finish s (checkDeltaIndicator di >>= g) =
      if di.toNat / 8 ≠ 0 then failedStream s .malformed
      else if di.toNat % 8 ≠ 0 then failedStream s .unsupported
      else finish s (g ()) := by
  simp only [checkDeltaIndicator, bind_assoc, finish_check_refuse_stream s not_not.symm]

/-- The checksum, or 0 where there is none (R815). -/
theorem finish_checksumField (wi : Byte) (p : Nat) (g : Nat × Nat → Except Failure State) :
    finish s (checksumField s wi p >>= g) =
      if wi.getLsbD 2 = true then onVarint s p fun ck q => finish s (g (ck, q)) else finish s (g (0, p)) := by
  simp only [checksumField, finish_ite_bind, finish_ck32, ok_bind]

/-- The layout is interleaved exactly when the extended format is allowed and the data and addresses sections are empty (R817). -/
theorem layoutBits_eq (ext checksum : Bool) (dl al : Nat) : layoutBits (ext && dl == 0 && al == 0) checksum =
    BitVec.ofNat 2 ((if ext = true ∧ dl = 0 ∧ al = 0 then 1 else 0) + (if checksum = true then 2 else 0)) := by
  simp only [layoutBits, flagBit, Bool.and_eq_true, beq_iff_eq, and_assoc, Nat.pow_zero, Nat.pow_one]

end windowHeader

/-- Settles O46: the preconditions in order, then the header's fields in wire order. -/
theorem whParseEffect : Obligations.WhParseEffect := by
  intro s
  rw [exec_eq, bodyOf, whParseBody, finish_sessionGate,
    finish_check_refuse (q := s.decOpen = false ∨ s.winActive = true) (by simp),
    finish_check_refuse (q := s.a0 > s.inLen) not_lt.symm]
  simp only [parseWindowHeader, bind_assoc, finish_need, finish_checkIndicator, finish_sourceSegment, finish_field32,
    finish_checkTargetSize, finish_checkDeltaIndicator, finish_checksumField, finish_check_refuse_stream s not_not.symm, pure_eq_ok,
    ok_bind, windowRegs, layoutBits_eq, State.setRes01, w64_of_toNat]
  rfl

/-! The end of a window (R820). -/

theorem w64_add_toNat (a b : Word) : w64 (a.toNat + b.toNat) = a + b := by
  rw [w64, BitVec.ofNat_add, BitVec.ofNat_toNat, BitVec.ofNat_toNat, BitVec.setWidth_eq, BitVec.setWidth_eq]

/-- Settles O47: the checks in order; the decode total is a sum of words. -/
theorem winEndEffect : Obligations.WinEndEffect := by
  intro s
  rw [exec_eq, bodyOf, winEndBody, finish_sessionGate, finish_check_refuse (q := s.winActive = false) (by simp),
    finish_check_refuse (q := s.readerActive = false ∧ s.w.instLen ≠ 0) (by grind),
    finish_check_refuse (q := s.w.windowEnd.toNat > s.inLen) not_lt.symm,
    finish_check_refuse_stream s
      (q := s.readerActive = true ∧ (s.rdPos ≠ s.w.addrStart ∨ s.pendingOp ≠ none ∨ s.pushbackInst ≠ none)) (by grind),
    finish_check_refuse_stream s (q := s.arg.r0 ≠ s.w.targetSize) not_not.symm, w64_add_toNat, State.setRes0, w64_of_toNat]
  rfl

end Sys2Proof.Machine

/-! The statements of the family `45_control.md`: a code that is no command (O6), and the control commands (O8 to O12). -/

namespace Sys2Proof.Machine

theorem step_writeCmd_illegal {s : State} {code : Byte} {rest : List HostAccess} (h : s.host = .writeCmd code :: rest)
    (hc : decodeCommand code = none) : step s = .next { s with host := rest, cmd := code, status := .illegal } := by
  simp [step, fetch, h, hc, execIllegal, command, fail]

/-- Settles O6: the code has no row, so the step ends ILLEGAL. -/
theorem illegalCode : Obligations.IllegalCode := fun _ _ _ hhost hillegal =>
  step_writeCmd_illegal hhost (decode_command_eq_illegal.1 hillegal)

/-- Settles O8: the body of NOP writes nothing. -/
theorem nopEffect : Obligations.NopEffect := fun s => exec_eq .nop s

/-! The register numbers (`10_state.md` R105). -/

/-- R105's map: the assigned numbers, each with the register it names. -/
def Reg.numbers : List (Nat × Reg) :=
  [(0x00, .ctrl), (0x01, .dictSize), (0x02, .maxWindowSize), (0x03, .maxFileSize), (0x04, .nearSize), (0x05, .sameSize),
   (0x06, .maxMode), (0x08, .status), (0x09, .flags), (0x0A, .inLen), (0x0B, .outLen), (0x0C, .decTargetTotal), (0x10, .rdPos),
   (0x11, .rdEnd), (0x18, .wrDataLen), (0x19, .wrInstLen), (0x1A, .wrAddrLen), (0x1B, .wrInstCount), (0x1C, .wrTargetLen),
   (0x20, .wIndicator), (0x21, .wSrcLen), (0x22, .wSrcPos), (0x23, .wDeltaLen), (0x24, .wTargetSize), (0x25, .wDeltaInd),
   (0x26, .wDataLen), (0x27, .wInstLen), (0x28, .wAddrLen), (0x29, .wChecksum), (0x2A, .wDataStart), (0x2B, .wInstStart),
   (0x2C, .wAddrStart), (0x2D, .wEnd), (0x2E, .wLayout)]

theorem ofNumber_of_mem : ∀ e ∈ Reg.numbers, Reg.ofNumber e.1 = some e.2 := by decide

theorem mem_numbers_of_ofNumber {n : Nat} {r : Reg} (h : Reg.ofNumber n = some r) : (n, r) ∈ Reg.numbers := by
  unfold Reg.ofNumber at h
  split at h <;> cases h
  all_goals decide

theorem lookup_numbers_of_mem : ∀ e ∈ Reg.numbers, Reg.numbers.lookup e.1 = some e.2 := by decide

theorem lookup_numbers (n : Nat) : Reg.numbers.lookup n = Reg.ofNumber n := by
  cases h : Reg.ofNumber n with
  | none =>
    refine List.lookup_eq_none_iff.2 fun e he => bne_iff_ne.2 ?_
    rintro rfl
    cases h.symm.trans (ofNumber_of_mem e he)
  | some r => exact lookup_numbers_of_mem _ (mem_numbers_of_ofNumber h)

/-! REG_READ (R901). -/

theorem lookup_map_snd {α β γ : Type} [BEq α] (f : β → γ) (l : List (α × β)) (a : α) :
    (l.map (Prod.map id f)).lookup a = (l.lookup a).map f := by
  induction l with
  | nil => rfl
  | cons e l ih =>
    simp only [List.map_cons, Prod.map, id, List.lookup, ih]
    split <;> rfl

/-- Settles O9: the statement's map is R105's with each register's value. -/
theorem regReadEffect : Obligations.RegReadEffect := by
  intro s map
  have hmap : map.lookup s.a0 = (Reg.ofNumber s.a0).map s.regValue := by
    rw [← lookup_numbers, ← lookup_map_snd]
    rfl
  rw [exec_eq, bodyOf, regReadBody, hmap]
  cases Reg.ofNumber s.a0 <;> rfl

/-! The register writes (R902, R107). -/

theorem finish_writeCtrl (s : State) (new : BitVec 3) : finish s (writeCtrl s new) =
    if new.getLsbD 2 ≠ s.ctrl.getLsbD 2 ∧ s.decOpen = true then { s with status := .stateError }
    else if (new.getLsbD 0 ≠ s.ctrl.getLsbD 0 ∨ new.getLsbD 1 ≠ s.ctrl.getLsbD 1) ∧ (s.encOpen = true ∨ s.wrInstCount ≠ 0) then
      { s with status := .stateError }
    else { s with ctrl := new, status := .ok } := by
  rw [writeCtrl, finish_check_refuse (q := new.getLsbD 2 ≠ s.ctrl.getLsbD 2 ∧ s.decOpen = true) (by simp),
    finish_check_refuse (q := (new.getLsbD 0 ≠ s.ctrl.getLsbD 0 ∨ new.getLsbD 1 ≠ s.ctrl.getLsbD 1) ∧
      (s.encOpen = true ∨ s.wrInstCount ≠ 0)) (by grind), finish_pure]

theorem le_maxField_iff {n : Nat} : n ≤ maxField ↔ ¬n > 2 ^ 31 - 1 := not_lt.symm

theorem finish_writeDictSize (s : State) (v : Word) : finish s (writeDictSize s v) =
    if s.decOpen = true ∨ s.encOpen = true then { s with status := .stateError }
    else if v.toNat > 2 ^ 31 - 1 then { s with status := .outOfRange }
    else { s with dictSize := v, status := .ok } := by
  rw [writeDictSize, finish_check_refuse (q := s.decOpen = true ∨ s.encOpen = true) (by simp),
    finish_check_refuse le_maxField_iff, finish_pure]

/-- The two limit registers share their freeze and their range. -/
theorem finish_checkLimitWrite (s : State) (old v : Word) (g : Unit → Except Failure State) :
    finish s (checkLimitWrite s old v >>= g) =
      if v ≠ old ∧ s.decOpen = true then { s with status := .stateError }
      else if v.toNat > 2 ^ 31 - 1 then { s with status := .outOfRange }
      else finish s (g ()) := by
  rw [checkLimitWrite, bind_assoc, finish_check_refuse (q := v ≠ old ∧ s.decOpen = true) (by simp),
    finish_check_refuse le_maxField_iff]

/-- The numbers of the four writable registers. -/
theorem ofNumber_eq_writable (n : Nat) :
    (Reg.ofNumber n = some .ctrl ↔ n = 0x00) ∧ (Reg.ofNumber n = some .dictSize ↔ n = 0x01) ∧
      (Reg.ofNumber n = some .maxWindowSize ↔ n = 0x02) ∧ (Reg.ofNumber n = some .maxFileSize ↔ n = 0x03) := by
  have hmem (r : Reg) : Reg.ofNumber n = some r ↔ (n, r) ∈ Reg.numbers := ⟨mem_numbers_of_ofNumber, ofNumber_of_mem _⟩
  simp [hmem, Reg.numbers]

/-- R902's cases by number instead of by register. -/
theorem regWriteBody_eq (s : State) : regWriteBody s =
    if s.a0 = 0x00 then writeCtrl s (BitVec.ofNat 3 s.a1)
    else if s.a0 = 0x01 then writeDictSize s s.arg.r1
    else if s.a0 = 0x02 then checkLimitWrite s s.maxWindowSize s.arg.r1 >>= fun _ => pure { s with maxWindowSize := s.arg.r1 }
    else if s.a0 = 0x03 then checkLimitWrite s s.maxFileSize s.arg.r1 >>= fun _ => pure { s with maxFileSize := s.arg.r1 }
    else .error (.plain .illegal) := by
  obtain ⟨hctrl, hdict, hwindow, hfile⟩ := ofNumber_eq_writable s.a0
  unfold regWriteBody
  split
  · next h => rw [if_pos (hctrl.1 h)]
  · next h => simp [hdict.1 h]
  · next h => simp [hwindow.1 h]
  · next h => simp [hfile.1 h]
  · next h0 h1 h2 h3 => rw [if_neg (h0 ∘ hctrl.2), if_neg (h1 ∘ hdict.2), if_neg (h2 ∘ hwindow.2), if_neg (h3 ∘ hfile.2)]

/-- Settles O10: the four registers' writes by number, each with its checks in order. -/
theorem regWriteEffect : Obligations.RegWriteEffect := by
  intro s
  rw [exec_eq, bodyOf, regWriteBody_eq]
  simp only [finish_ite, finish_writeCtrl, finish_writeDictSize, finish_checkLimitWrite, finish_pure, finish_error]
  rfl

/-- Settles O11: while IN holds at most IN_SIZE bytes, it is full exactly when the command refuses. -/
theorem inAppendEffect : Obligations.InAppendEffect := by
  intro s hfits
  rw [exec_eq, bodyOf, inAppendBody, finish_check_refuse (q := s.inLen = s.cfg.inSize) (by omega)]
  rfl

/-- Settles O12: the body is the reset state with the host's side kept. -/
theorem resetEffect : Obligations.ResetEffect := by
  intro s
  refine ⟨(State.resetWith s.cfg).cmd, ?_⟩
  rw [exec_eq, bodyOf, finish_ok, State.afterReset]

end Sys2Proof.Machine

/-! The statements of the family `60_exceptions.md`: every instruction is total (O52), what a failure leaves unchanged (O49), which
failures set SESSION_FAILED (O50), and what SESSION_FAILED refuses (O51). -/

namespace Sys2Proof.Machine

/-! Where a step stops (R1007). -/

section totality

variable {s : State} {rest : List HostAccess}

/-- An issued code always ends in a next state: a command's, or that of an unknown code. -/
theorem exists_step_writeCmd {code : Byte} (h : s.host = .writeCmd code :: rest) : ∃ t, step s = .next t := by
  cases hc : decodeCommand code with
  | none => exact ⟨_, step_writeCmd_illegal h hc⟩
  | some i => exact ⟨_, (step_writeCmd h hc).trans (exec_eq i _)⟩

/-- A host read of a byte answers it, or faults where there is none. -/
theorem answerByte_cases (o : Option Byte) (f : Fault) (s : State) :
    (∃ t, answerByte o f s = .next t) ∨ (o = none ∧ answerByte o f s = .fault f) := by
  cases o with
  | some b => exact .inl ⟨_, rfl⟩
  | none => exact .inr ⟨rfl, rfl⟩

end totality

/-- Settles O52: an instruction is a command over its body, and of the host's accesses only the two reads of a byte can fault. -/
theorem totality : Obligations.Totality := by
  refine ⟨fun i s => ⟨_, exec_eq i s⟩, fun s => ?_⟩
  cases hhost : s.host with
  | nil => exact .inl ⟨s, step_idle hhost⟩
  | cons a rest =>
    cases a with
    | writeCmd code => exact .inl (exists_step_writeCmd hhost)
    | writeArg n v => exact .inl ⟨_, step_writeArg hhost⟩
    | readRes n => exact .inl ⟨_, step_readRes hhost⟩
    | readStatus => exact .inl ⟨_, step_readStatus hhost⟩
    | readCmd => exact .inl ⟨_, step_readCmd hhost⟩
    | readOut p =>
      obtain ⟨t, hnext⟩ | ⟨habsent, hfault⟩ := answerByte_cases (s.readByte .out p) .outByteAbsent { s with host := rest }
      · exact .inl ⟨t, (step_readOut hhost).trans hnext⟩
      · exact .inr (.inl ⟨p, rest, rfl, List.getElem?_eq_none_iff.1 habsent, (step_readOut hhost).trans hfault⟩)
    | readIn p =>
      obtain ⟨t, hnext⟩ | ⟨habsent, hfault⟩ := answerByte_cases (s.readByte .inp p) .inByteAbsent { s with host := rest }
      · exact .inl ⟨t, (step_readIn hhost).trans hnext⟩
      · exact .inr (.inr ⟨p, rest, rfl, List.getElem?_eq_none_iff.1 habsent, (step_readIn hhost).trans hfault⟩)

/-! How an instruction fails, with what each way of failing says of the state it failed in (R1002, R1003). -/

section failing

variable {s : State} {i : Instr} {u : State}

/-- The endings that are stream-content errors in a command that reads the stream: MALFORMED, UNSUPPORTED, and OUT_OF_RANGE but for
a position operand beyond IN (R1003). -/
abbrev streamContent (s : State) (st : Status) : Prop :=
  st = .malformed ∨ st = .unsupported ∨ (st = .outOfRange ∧ s.a0 ≤ s.inLen)

/-- The RD_GET ran out of stream: nothing was pushed back or pending, and it skipped every unread byte (R604). -/
structure RanOut (i : Instr) (s : State) : Prop where
  get : isReaderGet i
  pending : s.pendingOp = none
  pushback : s.pushbackInst = none
  bare : i = .rdGet → ∀ b ∈ s.unread, bareNoop s.ct b

/-- A scan that finds nothing had no opcode pending, and met bare NOOPs only. -/
theorem bare_of_nextHalf_exhausted {bytes : List Byte} {p : Nat}
    (h : nextHalf s.ct s.pendingOp bytes s.rdPos.toNat = .exhausted p) :
    s.pendingOp = none ∧ (∀ b ∈ bytes, bareNoop s.ct b) ∧ p = s.rdPos.toNat + bytes.length := by
  cases hp : s.pendingOp with
  | some op => simp [hp] at h
  | none => exact ⟨rfl, (nextHalf_eq_exhausted _ _ _ _).1 (hp ▸ h)⟩

/-- How an instruction can fail: with STATUS alone, and no stream-content error if it reads the stream; with a stream-content error;
or as an RD_GET that ran out of stream. -/
def FailureCases (i : Instr) (s : State) : Failure → Prop
  | .plain st => st ≠ .ok ∧ (readsStream i → ¬streamContent s st)
  | .stream st => s.sessionFailed = false ∧ readsStream i ∧ streamContent s st
  | .exhausted p => p = s.rdPos.toNat + s.unread.length ∧ RanOut i s

theorem failureCases_readerGet (hget : isReaderGet i) : Fails (FailureCases i s) (bodyOf i s) := by
  intro f h
  obtain ⟨bytes, hbody, hlen, hbytes⟩ := bodyOf_readerGet s hget
  rw [hbody] at h
  obtain ⟨_, rfl⟩ | ⟨_, _, rfl⟩ | ⟨hsession, _, _, hpush, ⟨p, hscan, rfl⟩ | rfl | rfl⟩ := rdGetOn_error h
  · simp [FailureCases]
  · simp [FailureCases]
  · obtain ⟨hpend, hbare, hp⟩ := bare_of_nextHalf_exhausted hscan
    exact ⟨hlen ▸ hp, hget, hpend, hpush, fun hi => hbytes hi ▸ hbare⟩
  · simp [FailureCases]
  · exact ⟨hsession, .inr (.inr (.inr hget)), .inl rfl⟩

theorem failureCases_parser (hi : i = .fhParse ∨ i = .whParse ∨ i = .winEnd) : Fails (FailureCases i s) (bodyOf i s) := by
  intro f h
  have hreads : readsStream i := by tauto
  obtain hrecoverable | ⟨hsession, rfl | ⟨hpos, rfl | rfl⟩⟩ := bodyOf_parsers s hi f h
  · obtain ⟨rfl, _⟩ | rfl | rfl | ⟨rfl, hpos⟩ := hrecoverable
    · simp [FailureCases]
    · simp [FailureCases]
    · simp [FailureCases]
    · simp [FailureCases, hpos]
  · exact ⟨hsession, hreads, .inl rfl⟩
  · exact ⟨hsession, hreads, .inr (.inr ⟨rfl, hpos⟩)⟩
  · exact ⟨hsession, hreads, .inr (.inl rfl)⟩

theorem bodyOf_failureCases : Fails (FailureCases i s) (bodyOf i s) := by
  by_cases hget : isReaderGet i
  · exact failureCases_readerGet hget
  by_cases hparse : i = .fhParse ∨ i = .whParse ∨ i = .winEnd
  · exact failureCases_parser hparse
  have hreads : ¬readsStream i := by tauto
  intro f h
  obtain ⟨st, hst, rfl⟩ | ⟨_, _, _, hr⟩ | ⟨hg, _⟩ := bodyOf_failure h
  · exact ⟨hst, fun hr => absurd hr hreads⟩
  · exact absurd hr hreads
  · exact absurd hg hget

/-- No command but RESET touches SESSION_FAILED when it ends OK (R104, R1003). -/
theorem sessionFailed_of_ok (h : bodyOf i s = .ok u) : u.sessionFailed = s.sessionFailed ∨ i = .reset := by
  revert i u
  apply ok_cases (s := s) (P := fun i u => u.sessionFailed = s.sessionFailed ∨ i = .reset)
  case wrAdd | wrRun | wrCopy =>
    intros
    rename_i hadd
    rw [addInstruction_frame hadd]
    exact .inl rfl
  case reset => exact .inr rfl
  all_goals
    intros
    exact .inl rfl

end failing

/-- Settles O49: each of the three failures writes the fields it names, and the last two say which instruction failed, and where. -/
theorem failuresPrecise : Obligations.FailuresPrecise := by
  intro i s t h hst
  obtain ⟨u, _, rfl⟩ | ⟨f, hf, rfl⟩ := exec_cases h
  · exact absurd rfl hst
  have hcases := bodyOf_failureCases f hf
  cases f with
  | plain st => exact ⟨rfl, fun hne => absurd rfl hne, fun hne => absurd rfl hne⟩
  | stream st =>
    obtain ⟨hsession, hreads, hcontent⟩ := hcases
    exact ⟨rfl, fun _ => ⟨hsession, hreads, by tauto⟩, fun hne => absurd rfl hne⟩
  | exhausted p =>
    obtain ⟨rfl, hget, hpend, hpush, hbare⟩ := hcases
    exact ⟨rfl, fun hne => absurd rfl hne, fun _ => ⟨hget, rfl, hpend, hpush, rfl, hbare⟩⟩

/-- Settles O50: only the stream-content failure sets the bit, and it is the one whose status is of the list. -/
theorem streamErrors : Obligations.StreamErrors := by
  intro i s t h hsession
  obtain ⟨u, hu, rfl⟩ | ⟨f, hf, rfl⟩ := exec_cases h
  · have hclear : u.sessionFailed = false := by
      obtain hkept | rfl := sessionFailed_of_ok hu
      · exact hkept.trans hsession
      · cases hu; rfl
    simp [hclear]
  have hcases := bodyOf_failureCases f hf
  cases f with
  | plain st =>
    obtain ⟨_, hquiet⟩ := hcases
    exact ⟨fun hset => absurd (hsession.symm.trans hset) (by decide), fun ⟨hreads, hcontent⟩ => absurd hcontent (hquiet hreads)⟩
  | stream st =>
    obtain ⟨_, hreads, hcontent⟩ := hcases
    exact ⟨fun _ => ⟨hreads, hcontent⟩, fun _ => rfl⟩
  | exhausted p => simp [fail, hsession]

/-! What SESSION_FAILED = 1 does to a command (R1004): it refuses those of the decode side, and the others do not see it. -/

section sticky

variable {s : State} {i : Instr}

theorem sessionGate_failed (h : s.sessionFailed = true) : sessionGate s = .error (.plain .sessionFailed) :=
  check_of_not (by simp [h]) _

/-- Every decode-side command begins with the gate. -/
theorem bodyOf_failed (hi : isDecodeSide i) (h : s.sessionFailed = true) : bodyOf i s = .error (.plain .sessionFailed) := by
  obtain hi | hget := hi
  · simp only [List.mem_cons, List.not_mem_nil, or_false] at hi
    obtain rfl | rfl | rfl | rfl | rfl | rfl | rfl := hi
    all_goals
      simp only [bodyOf, fhParseBody, whParseBody, rdStartBody, rdExtendBody, rdSeekBody, rdUngetBody, winEndBody,
        sessionGate_failed h, error_bind]
  · obtain ⟨bytes, hbody, _⟩ := bodyOf_readerGet s hget
    rw [hbody, rdGetOn, sessionGate_failed h, error_bind]

/-- The state with SESSION_FAILED set to `b`. -/
abbrev State.withSession (b : Bool) (s : State) : State := { s with sessionFailed := b }

section blind

variable {α : Type} {b : Bool}

/-- A sequence that ends the same but for SESSION_FAILED, from its last part. -/
theorem bind_withSession {x : Except Failure α} {g g' : α → Except Failure State}
    (h : ∀ a, g' a = State.withSession b <$> g a) : (x >>= g') = State.withSession b <$> (x >>= g) := by
  rw [map_bind]
  exact bind_congr h

theorem ite_withSession {c : Prop} [Decidable c] {x x' y y' : Except Failure State} (hx : x' = State.withSession b <$> x)
    (hy : y' = State.withSession b <$> y) : (if c then x' else y') = State.withSession b <$> (if c then x else y) := by
  rw [hx, hy, apply_ite (State.withSession b <$> ·)]

end blind

theorem appendPayload_withSession (b : Bool) (s : State) (p : Payload) :
    (s.withSession b).appendPayload p = (s.appendPayload p).withSession b := by
  rw [appendPayload_regions, appendPayload_regions s]
  rfl

theorem addInstruction_withSession (b : Bool) (s : State) (typ : Byte) (sz mode : Nat) (p : Payload) :
    addInstruction (s.withSession b) typ sz mode p = State.withSession b <$> addInstruction s typ sz mode p := by
  refine bind_withSession fun _ => bind_withSession (x := emit s typ sz mode) fun e => ?_
  simp only [appendPayload_withSession b { s with insts := e.insts, wrLast := e.last } p]
  exact bind_withSession fun _ => rfl

theorem vdecBody_withSession (b : Bool) (dec : List Byte → Nat → Nat → VarintOutcome) (s : State) :
    vdecBody dec (s.withSession b) = State.withSession b <$> vdecBody dec s := by
  refine bind_withSession fun _ => ?_
  change (match dec s.inp s.a0 s.a1 with | .truncated => _ | .malformed => _ | .ok v q => _) = _
  cases dec s.inp s.a0 s.a1 <;> rfl

theorem mapSecondBody_withSession (b : Bool) (s : State) :
    mapSecondBody (s.withSession b) = State.withSession b <$> mapSecondBody s := by
  refine bind_withSession fun _ => bind_withSession fun _ => bind_withSession fun _ => ?_
  change (match secondLookup s.second (BitVec.ofNat 8 s.a0) (instIdx (BitVec.ofNat 8 s.a1) s.a2) s.a3 with
    | none => _ | some c => _) = _
  cases secondLookup s.second (BitVec.ofNat 8 s.a0) (instIdx (BitVec.ofNat 8 s.a1) s.a2) s.a3 <;> rfl

theorem regWriteBody_withSession (b : Bool) (s : State) :
    regWriteBody (s.withSession b) = State.withSession b <$> regWriteBody s := by
  rw [regWriteBody_eq, regWriteBody_eq]
  exact ite_withSession (bind_withSession fun _ => bind_withSession fun _ => rfl)
    (ite_withSession (bind_withSession fun _ => bind_withSession fun _ => rfl)
    (ite_withSession (bind_withSession fun _ => rfl) (ite_withSession (bind_withSession fun _ => rfl) rfl)))

/-- A command that is not of the decode side takes no account of SESSION_FAILED and leaves it, but for REG_READ, which reads FLAGS, and
RESET, which clears them (R1004). -/
theorem bodyOf_withSession (b : Bool) (s : State) (hi : ¬isDecodeSide i) (hreset : i ≠ .reset) (hread : i ≠ .regRead) :
    bodyOf i (s.withSession b) = State.withSession b <$> bodyOf i s := by
  revert hi hreset hread
  apply instr_cases (P := fun i => ¬isDecodeSide i → i ≠ .reset → i ≠ .regRead →
    bodyOf i (s.withSession b) = State.withSession b <$> bodyOf i s)
  case opcode => exact fun i op hop hi => absurd (.inr (.inr (by simp [hop]))) hi
  case fhParse | whParse | winEnd | rdStart | rdExtend | rdSeek | rdGet | rdUnget => exact fun hi => absurd (by decide) hi
  case reset => exact fun _ hreset => absurd rfl hreset
  case regRead => exact fun _ _ hread => absurd rfl hread
  all_goals intro _ _ _
  case nop | venc32 | wrDiscard => rfl
  case venc64 | inAppend => exact bind_withSession fun _ => rfl
  case ctSetCache | ctRead => exact bind_withSession fun _ => bind_withSession fun _ => rfl
  case ctWrite | mapFirst => exact bind_withSession fun _ => bind_withSession fun _ => bind_withSession fun _ => rfl
  case fhWrite =>
    exact bind_withSession fun _ => bind_withSession fun _ => bind_withSession fun _ => bind_withSession fun _ => rfl
  case ctLoadDefault | ctCommit => exact bind_withSession fun _ => by simp only [map_pure]
  case vdec32 | vdec64 => exact vdecBody_withSession b _ s
  case mapSecond => exact mapSecondBody_withSession b s
  case regWrite => exact regWriteBody_withSession b s
  case wrAdd => exact bind_withSession fun _ => bind_withSession fun _ => addInstruction_withSession b s _ _ _ _
  case wrRun =>
    exact bind_withSession fun _ => bind_withSession fun _ => bind_withSession fun _ => addInstruction_withSession b s _ _ _ _
  case wrCopy =>
    exact bind_withSession fun _ => bind_withSession fun _ => bind_withSession fun _ => bind_withSession fun _ =>
      addInstruction_withSession b s _ _ _ _
  case wrOutput =>
    exact bind_withSession fun _ => bind_withSession fun _ => bind_withSession fun _ => bind_withSession fun _ =>
      ite_withSession rfl (bind_withSession fun _ => rfl)

theorem exec_withSession {t : State} (b : Bool) (hi : ¬isDecodeSide i) (hreset : i ≠ .reset) (hread : i ≠ .regRead)
    (h : exec i s = .next t) : exec i (s.withSession b) = .next (t.withSession b) := by
  rw [exec_eq, bodyOf_withSession b s hi hreset hread]
  obtain ⟨u, hu, rfl⟩ | ⟨f, hf, rfl⟩ := exec_cases h
  · rw [hu]; rfl
  · obtain ⟨st, rfl, _⟩ := bodyOf_ordinary s hi f hf
    rw [hf]; rfl

end sticky

/-- Settles O51: the gate of the decode side; the flag frame, by which only RESET clears the bit; the failures of the other commands,
none of which is SESSION_FAILED; and their bodies, which take no account of the bit. -/
theorem stickyFailure : Obligations.StickyFailure := by
  refine fun i s => ⟨fun hi h => exec_of_plain (bodyOf_failed hi h), fun t h hset hclear => ?_, fun t hi h => ?_,
    fun t hi hreset hread h => exec_withSession (s := s.withSession false) true hi hreset hread h⟩
  · obtain ⟨hset', _⟩ | ⟨_, hreset⟩ := (flagFrame_exec h).sessionFailed (by rw [hset, hclear]; decide)
    · exact absurd (hclear.symm.trans hset') (by decide)
    · exact hreset
  · obtain ⟨u, _, rfl⟩ | ⟨f, hf, rfl⟩ := exec_cases h
    · exact fun hst => Status.noConfusion hst
    · obtain ⟨st, rfl, _, hst⟩ := bodyOf_ordinary s hi f hf
      exact hst

end Sys2Proof.Machine

/-! The statements of the family `70_reset_and_hazards.md`: the reset state (O7), and the invariant it meets (O58). -/

namespace Sys2Proof.Machine

section reset

variable (cfg : Config)

theorem ctrlBits_resetWith : (State.resetWith cfg).wrInterleaved = false ∧ (State.resetWith cfg).wrChecksum = false ∧
    (State.resetWith cfg).allowVcdTarget = true := by
  simp only [State.wrInterleaved, State.wrChecksum, State.allowVcdTarget, State.resetWith]
  decide

theorem maxMode_resetWith : (State.resetWith cfg).maxMode = 8 := rfl

/-- Every row of CT is the default row (R320). -/
theorem ctByte_resetWith {r : Nat} (a : Nat) (hr : r ≤ 255) : ctByte (State.resetWith cfg).ct a r = (defaultRow r).byte a :=
  ctByte_default (Nat.lt_succ_of_le hr)

/-- FIRST and SECOND are the maps of that table. The fields are read by `simp only`: `rfl` may evaluate the builds. -/
theorem maps_resetWith : (State.resetWith cfg).first = buildFirst (State.resetWith cfg).ct ∧
    (State.resetWith cfg).second = buildSecond (State.resetWith cfg).ct (State.resetWith cfg).first := by
  simp only [State.resetWith, and_self]

end reset

/-- Settles O7: the values that are computed from fields by the lemmas above; all others are fields. -/
theorem resetState : Obligations.ResetState := by
  intro cfg
  obtain ⟨hinterleaved, hchecksum, htarget⟩ := ctrlBits_resetWith cfg
  obtain ⟨hfirst, hsecond⟩ := maps_resetWith cfg
  refine ⟨_, rfl, rfl, rfl, rfl, rfl, hinterleaved, hchecksum, htarget, rfl, rfl, rfl, rfl, rfl, maxMode_resetWith cfg,
    flags_resetWith cfg, rfl, rfl, rfl, rfl, rfl, fun a _ r hr => ctByte_resetWith cfg a hr, hfirst, hsecond, ?_⟩
  simp only [State.resetWith, WindowRegs.reset, and_self]

/-- An empty IN, the default table, no session, window or reader, and an empty writer. -/
theorem inv_resetWith {cfg : Config} (hcfg : cfg.wf) : Inv (State.resetWith cfg) where
  config := ⟨hcfg, Nat.zero_le _⟩
  table := by apply invTable_of_default <;> simp only [State.resetWith]
  limits := by constructor <;> simp only [State.resetWith] <;> decide
  session := by constructor <;> simp [State.resetWith]
  window := by constructor <;> simp [State.resetWith, WindowRegs.reset, WindowRegs.interleaved]
  reader := invReader_of_idle rfl rfl rfl rfl
  writer := invWriter_of_empty rfl rfl rfl rfl rfl rfl

/-- Settles O58: `inv_resetWith`, for all parameters in range and for those of `State.reset`. -/
theorem invAtReset : Obligations.InvAtReset := ⟨fun _ => inv_resetWith, inv_resetWith (by decide)⟩

end Sys2Proof.Machine
